-- ==== Sys2Proof/Word.lean ====
section
/-!
DEFINITION. The words of the CT-2440's manual: bytes and 16-bit words as they travel in cells, link addresses, frame
numbers, colours, and the small fixed ranges the manual numbers (slots, desk screens, source screens, image slots).
-/

namespace Sys2Proof

/-- One byte of a cell. -/
abbrev Byte := BitVec 8

/-- A two-byte field of a cell, most significant byte first on the link (R14). -/
abbrev Word16 := BitVec 16

/-- A link address: twelve bits (R6 check 5, R14). 0 means none and 4095 all desks. -/
abbrev Addr := BitVec 12

/-- A frame number, compared by serial arithmetic modulo 65536 (R59). -/
abbrev Frame := BitVec 16

/-- A Source Table slot, 0..7 (R38). -/
abbrev Slot := Fin 8

/-- A desk screen, 0..3 (R89). -/
abbrev Desk := Fin 4

/-- A source screen of one source, 0..3 (R38). -/
abbrev SrcScreen := Fin 4

/-- An image slot of the pool, 0..15 (R48). -/
abbrev ImageIx := Fin 16

/-- A colour: R, G and B, each 0..255 (Conventions, R14). -/
structure Colour where
  r : Byte
  g : Byte
  b : Byte
deriving DecidableEq, Repr

/-- The colour (0, 0, 0). -/
abbrev Colour.black : Colour := ⟨0, 0, 0⟩

/-- The 256 pixels of one tile, in row-major order (R64). -/
abbrev TilePixels := Vector Colour 256

end Sys2Proof
end

