-- ==== Sys2Proof/Syntax.lean ====
section
/-!
DEFINITION. The commands of the CT-2440: one constructor of `Instr` per row of spec/opcode_table.json, with the operands that
reach the node from outside at that event (a code group, the contents of a cell, a desk report, a strap reading). What a row
takes from inside the node (the head of a queue, a running timer) is no operand: it stands in the state.
-/

namespace Sys2Proof

/-- The two link ports. -/
inductive Port where
  | a
  | b
deriving DecidableEq, Repr

/-- One code group on a link's line (R1). Only `invalid` is not valid; a period with no signal is one invalid group. -/
inductive CodeGroup where
  | data (b : Byte)
  | idle
  | startDelim
  | endDelim
  | invalid
deriving DecidableEq, Repr

/-- The eleven cell kinds (R14). -/
inductive Kind where
  | tile | frameEnd | cursor | srcStatus | mgmtReq
  | mgmtRsp | event | hidKey | hidPointer | refresh | deskStatus
deriving DecidableEq, Repr

/-- A valid cell, less its length field and its CRC, which the rest determines (R6, R7, R14). -/
structure Cell where
  kind : Kind
  origin : Addr
  dest : Addr
  payload : List Byte
deriving DecidableEq, Repr

/-- A cell in reception: its bytes so far and its damaged mark (the port state table, R5). -/
structure RxCell where
  bytes : List Byte
  damaged : Bool
deriving DecidableEq, Repr

/-- What ended a cell in reception: an end delimiter, or the start delimiter of the next cell (R5). -/
inductive CellEnding where
  | atEnd
  | atStart
deriving DecidableEq, Repr

/-- The image part of a TILE: 256 pixels, or one colour for all of them (R15). -/
inductive TileImage where
  | raw (pixels : TilePixels)
  | fill (colour : Colour)
deriving DecidableEq, Repr

/-- The payload of a TILE (R15). -/
structure TileCell where
  screen : Byte
  frame : Frame
  column : Byte
  row : Byte
  image : TileImage
deriving DecidableEq, Repr

/-- The payload of a FRAME_END (R15). -/
structure FrameEndCell where
  screen : Byte
  frame : Frame
  count : Word16
deriving DecidableEq, Repr

/-- The payload of a CURSOR (R15). -/
structure CursorCell where
  hidden : Byte
  hotX : Byte
  hotY : Byte
  colourA : Colour
  colourB : Colour
  image : Vector Byte 256
deriving DecidableEq, Repr

/-- Width and height of one source screen as a SRC_STATUS declares them (R15). -/
structure Size where
  width : Word16
  height : Word16
deriving DecidableEq, Repr

/-- The payload of a SRC_STATUS (R15). -/
structure SrcStatusCell where
  screenCount : Byte
  lamps : Byte
  half : Vector Word16 8
  sizes : Vector Size 4
deriving DecidableEq, Repr

/-- A management request the node takes (R17, R23): who asked, whether it was sent to all desks (destination 4095) or to the
node address, and its header fields and data. The request kind is the row's; a row that is a PUT to one table fixes `table`. -/
structure Request where
  origin : Addr
  toAll : Bool
  tag : Word16
  table : Byte
  index : Word16
  count : Word16
  data : List Byte
deriving DecidableEq, Repr

/-- Which of the two events is taken first where the completion of a NODE_RESET response and the arbiter's next begin fall
together (R12). -/
inductive ResetOrder where
  | resetFirst
  | beginFirst
deriving DecidableEq, Repr

/-- The commands: one constructor per row of spec/opcode_table.json, in the table's order. -/
inductive Instr where
  | powerOn (straps : BitVec 12)
  | resetLineAssert
  | resetLineRelease (straps : BitVec 12)
  | linkUp (p : Port) (g : CodeGroup)
  | linkDown (p : Port)
  | framingOverrun (p : Port) (b : Byte)
  | qualityWindowEnd (p : Port)
  | badCell (p : Port) (c : RxCell) (e : CellEnding)
  | wrongDirectionCell (c : Cell)
  | tile (origin dest : Addr) (t : TileCell)
  | frameEnd (origin dest : Addr) (f : FrameEndCell)
  | cursor (origin dest : Addr) (k : CursorCell)
  | srcStatus (origin dest : Addr) (x : SrcStatusCell)
  | mgmtReqForwarded (origin dest : Addr) (payload : List Byte)
  | get (r : Request)
  | getSource (r : Request)
  | getClear (r : Request)
  | put (r : Request)
  | putNode (r : Request)
  | putSubscribe (r : Request)
  | putForward (r : Request)
  | putScreen (r : Request)
  | putLayout (r : Request)
  | putRegionPending (r : Request)
  | putHotkey (r : Request)
  | putDeskHalf (r : Request)
  | swap (r : Request)
  | fence (r : Request)
  | presetStore (r : Request)
  | presetLoad (r : Request)
  | clearEvents (r : Request)
  | describe (r : Request)
  | nodeReset (r : Request)
  | unknownRequest (kind : Byte) (r : Request)
  | portBCell (c : Cell)
  | portABegin
  | fenceAnswerDeferred
  | portBBegin
  | txComplete (p : Port) (order : ResetOrder)
  | eventHoldoffEnd
  | silenceExpiryStale (i : Slot)
  | silenceExpiryLost (i : Slot)
  | statusPeriodExpiry (i : Slot)
  | verticalStart (d : Desk)
  | deskPointerReport (buttons : Byte) (dx dy wheel : Int)
  | deskKeyboardReport (modifiers : Byte) (keys : Vector Byte 6)
  | lampMessageBegin
  | lampMessageComplete
  | acquisitionCodeGroup (p : Port) (g : CodeGroup)
  | upCodeGroup (p : Port) (g : CodeGroup)
deriving DecidableEq, Repr

end Sys2Proof
end

