-- ==== Sys2Proof/Decode.lean ====
section
/-!
DEFINITION. The byte layouts of The Desk Link (R6, R7, R14 to R18): the CRC, the cell frame, the payloads of the cells the node
receives, the checks of a received cell, and which command the end of a received cell is. Decoding is total: a cell that fails a
check is a `badCell`, and `firstFailure` names the check. `decodeTableWord` stands at the end: no row of spec/opcode_table.json
has bits, so no word spells a command.
-/

namespace Sys2Proof

/-! ### Bytes and words -/

/-- The two bytes of a 16-bit field, most significant first (R14). -/
def be16 (w : Word16) : List Byte := [w.extractLsb' 8 8, w.extractLsb' 0 8]

/-- The four bytes of a 32-bit field, most significant first (R14). -/
def be32 (w : BitVec 32) : List Byte :=
  [w.extractLsb' 24 8, w.extractLsb' 16 8, w.extractLsb' 8 8, w.extractLsb' 0 8]

/-- A link address in its two bytes; the upper four bits are zero (R14). -/
def addrBytes (a : Addr) : List Byte := be16 (a.setWidth 16)

/-- A colour in its three bytes R, G, B (R14). -/
def colourBytes (c : Colour) : List Byte := [c.r, c.g, c.b]

/-- The byte at an offset; 0 past the end (no layout reads there). -/
def byteAt (l : List Byte) (i : Nat) : Byte := l.getD i 0

/-- The two-byte field at an offset. -/
def word16At (l : List Byte) (i : Nat) : Word16 := byteAt l i ++ byteAt l (i + 1)

/-- The link address at an offset (its upper four bits are zero in a valid cell, R6 check 5). -/
def addrAt (l : List Byte) (i : Nat) : Addr := (word16At l i).setWidth 12

/-- The colour at an offset. -/
def colourAt (l : List Byte) (i : Nat) : Colour := ⟨byteAt l i, byteAt l (i + 1), byteAt l (i + 2)⟩

/-- The 16-bit words of a run of bytes. -/
def wordsOf : List Byte → List Word16
  | a :: b :: t => (a ++ b) :: wordsOf t
  | _ => []

/-- The colours of a run of bytes. -/
def coloursOf : List Byte → List Colour
  | r :: g :: b :: t => ⟨r, g, b⟩ :: coloursOf t
  | _ => []

/-- A list of exactly `n` things as a vector. -/
def toVec {α : Type} (n : Nat) (l : List α) : Option (Vector α n) :=
  if h : l.length = n then some ⟨⟨l⟩, by simpa using h⟩ else none

/-! ### The CRC (R7) -/

/-- The generator polynomial of R7. -/
def crcPoly : BitVec 32 := 0x04C11DB7

/-- One bit of a byte through the register, most significant bit first (R7). -/
def crcBit (r : BitVec 32) : BitVec 32 := if r.msb then (r <<< 1) ^^^ crcPoly else r <<< 1

/-- One byte through the register (R7). -/
def crcByte (r : BitVec 32) (b : Byte) : BitVec 32 :=
  let x := r ^^^ (b.setWidth 32 <<< 24)
  crcBit (crcBit (crcBit (crcBit (crcBit (crcBit (crcBit (crcBit x)))))))

/-- The CRC of R7: from 0xFFFFFFFF, complemented at the end. -/
def crc32 (l : List Byte) : BitVec 32 := ~~~ (l.foldl crcByte 0xFFFFFFFF)

/-! ### Kinds and sizes -/

/-- The kind codes of R14. -/
def Kind.code : Kind → Byte
  | .tile => 0x10 | .frameEnd => 0x11 | .cursor => 0x12 | .srcStatus => 0x13 | .mgmtReq => 0x20
  | .mgmtRsp => 0x21 | .event => 0x22 | .hidKey => 0x30 | .hidPointer => 0x31 | .refresh => 0x32 | .deskStatus => 0x33

/-- The kind a code names, if it is one of the eleven (R6 check 6). -/
def kindOfCode (b : Byte) : Option Kind :=
  [Kind.tile, .frameEnd, .cursor, .srcStatus, .mgmtReq, .mgmtRsp, .event, .hidKey, .hidPointer, .refresh, .deskStatus].find?
    fun k => k.code == b

/-- The down kinds, which Port A hands to the Forwarding Unit; the others are up kinds (R8). -/
def Kind.isDown : Kind → Bool
  | .tile | .frameEnd | .cursor | .srcStatus | .mgmtReq => true
  | .mgmtRsp | .event | .hidKey | .hidPointer | .refresh | .deskStatus => false

/-- Whether a payload has the right length for its kind (R6 check 7); a TILE's depends on its encoding byte. -/
def sizeFits (k : Kind) (payload : List Byte) : Bool :=
  let n := payload.length
  match k with
  | .tile => (n == 774 && byteAt payload 5 == 0) || (n == 9 && byteAt payload 5 == 1)
  | .frameEnd => n == 5
  | .cursor => n == 265
  | .srcStatus => n == 34
  | .mgmtReq => 8 ≤ n && n ≤ 1024
  | .mgmtRsp => 3 ≤ n && n ≤ 1024
  | .event => n == 4
  | .hidKey | .hidPointer => n == 7
  | .refresh => n == 5
  | .deskStatus => n == 16

/-! ### The cell frame (R14) -/

/-- Header and payload: what the CRC is computed over (R7, R14). -/
def cellBody (c : Cell) : List Byte :=
  c.kind.code :: (be16 (BitVec.ofNat 16 c.payload.length) ++ (addrBytes c.origin ++ (addrBytes c.dest ++ c.payload)))

/-- The bytes of a cell between its delimiters (R14). -/
def cellBytes (c : Cell) : List Byte := cellBody c ++ be32 (crc32 (cellBody c))

/-- The seven checks of a received cell, in the order of R6. -/
inductive RxCheck where
  | code | frame | length | crc | address | kind | size
deriving DecidableEq, Repr

/-- The payload that the length field of a received cell delimits. -/
def payloadAt (l : List Byte) : List Byte := (l.drop 7).take (word16At l 1).toNat

/-- R6: the first check that a cell in reception fails when it ends, or none when it is valid. -/
def firstFailure (c : RxCell) (e : CellEnding) : Option RxCheck :=
  let l := c.bytes
  let n := (word16At l 1).toNat
  if c.damaged then some .code
  else if e ≠ .atEnd ∨ 1036 ≤ l.length then some .frame
  else if l.length < 11 ∨ 1024 < n ∨ l.length ≠ n + 11 then some .length
  else if l.drop (n + 7) ≠ be32 (crc32 (l.take (n + 7))) then some .crc
  else if (byteAt l 3).extractLsb' 4 4 ≠ 0 ∨ (byteAt l 5).extractLsb' 4 4 ≠ 0 then some .address
  else match kindOfCode (byteAt l 0) with
    | none => some .kind
    | some k => if sizeFits k (payloadAt l) then none else some .size

/-- The cell that the bytes of a valid cell spell (R14). -/
def cellOfBytes (l : List Byte) : Option Cell :=
  (kindOfCode (byteAt l 0)).map fun k => ⟨k, addrAt l 3, addrAt l 5, payloadAt l⟩

/-! ### Source cell payloads (R15) -/

/-- The bytes of a tile's pixels: all 256 of them, or the one colour (R15). -/
def imageBytes : TileImage → List Byte
  | .raw px => px.toList.flatMap colourBytes
  | .fill c => colourBytes c

/-- The encoding byte of a TILE (R15). -/
def TileImage.encoding : TileImage → Byte
  | .raw _ => 0
  | .fill _ => 1

def tilePayload (t : TileCell) : List Byte :=
  t.screen :: (be16 t.frame ++ (t.column :: t.row :: t.image.encoding :: imageBytes t.image))

/-- R15: a TILE's payload. -/
def tileOfPayload (l : List Byte) : Option TileCell :=
  let image? : Option TileImage :=
    if byteAt l 5 == 0 then (toVec 256 (coloursOf (l.drop 6))).map .raw
    else if byteAt l 5 == 1 then some (.fill (colourAt l 6))
    else none
  image?.map fun im => ⟨byteAt l 0, word16At l 1, byteAt l 3, byteAt l 4, im⟩

def frameEndPayload (f : FrameEndCell) : List Byte := f.screen :: (be16 f.frame ++ be16 f.count)

/-- R15: a FRAME_END's payload. -/
def frameEndOfPayload (l : List Byte) : FrameEndCell := ⟨byteAt l 0, word16At l 1, word16At l 3⟩

def cursorPayload (k : CursorCell) : List Byte :=
  k.hidden :: k.hotX :: k.hotY :: (colourBytes k.colourA ++ (colourBytes k.colourB ++ k.image.toList))

/-- R15: a CURSOR's payload. -/
def cursorOfPayload (l : List Byte) : Option CursorCell :=
  (toVec 256 (l.drop 9)).map fun im => ⟨byteAt l 0, byteAt l 1, byteAt l 2, colourAt l 3, colourAt l 6, im⟩

def sizeBytes (z : Size) : List Byte := be16 z.width ++ be16 z.height

def srcStatusPayload (x : SrcStatusCell) : List Byte :=
  x.screenCount :: x.lamps :: (x.half.toList.flatMap be16 ++ x.sizes.toList.flatMap sizeBytes)

/-- The sizes of the four screens from their eight words (R15). -/
def sizesOf : List Word16 → List Size
  | w :: h :: t => ⟨w, h⟩ :: sizesOf t
  | _ => []

/-- R15: a SRC_STATUS's payload. -/
def srcStatusOfPayload (l : List Byte) : Option SrcStatusCell :=
  (toVec 8 (wordsOf ((l.drop 2).take 16))).bind fun half =>
    (toVec 4 (sizesOf (wordsOf (l.drop 18)))).map fun sizes => ⟨byteAt l 0, byteAt l 1, half, sizes⟩

/-! ### Management requests (R17) -/

/-- Link address 4095: all desks (R23). -/
def allDesks : Addr := 4095

/-- The payload of a MGMT_REQ (R17). -/
def requestPayload (kind : Byte) (r : Request) : List Byte :=
  be16 r.tag ++ (kind :: r.table :: (be16 r.index ++ (be16 r.count ++ r.data)))

/-- The cell that carries a request to this node (R17, R23). -/
def requestCell (node : Addr) (kind : Byte) (r : Request) : Cell :=
  ⟨.mgmtReq, r.origin, if r.toAll then allDesks else node, requestPayload kind r⟩

/-- The request a MGMT_REQ cell carries, with its kind code (R17). -/
def requestOfCell (c : Cell) : Byte × Request :=
  let l := c.payload
  (byteAt l 2, ⟨c.origin, c.dest == allDesks, word16At l 0, byteAt l 3, word16At l 4, word16At l 6, l.drop 8⟩)

/-- The management tables (R18). -/
inductive Table where
  | node | subscribe | forward | screen | layout | regionPending | regionActive | preset
  | hotkey | deskHalf | source | steering | counters | events | resetCause
deriving DecidableEq, Repr

/-- The table codes of R18; any other code names no table. -/
def tableOfCode (b : Byte) : Option Table :=
  match b.toNat with
  | 1 => some .node | 2 => some .subscribe | 3 => some .forward | 4 => some .screen | 5 => some .layout
  | 6 => some .regionPending | 7 => some .regionActive | 8 => some .preset | 9 => some .hotkey | 10 => some .deskHalf
  | 11 => some .source | 12 => some .steering | 13 => some .counters | 14 => some .events | 15 => some .resetCause
  | _ => none

/-- How many entries a table has, for the index and count checks (R169). -/
def Table.entries : Table → Nat
  | .node => 1 | .subscribe => 8 | .forward => 64 | .screen => 4 | .layout => 4 | .regionPending => 4 | .regionActive => 4
  | .preset => 32 | .hotkey => 16 | .deskHalf => 8 | .source => 8 | .steering => 1 | .counters => 76 | .events => 1
  | .resetCause => 1

/-- The entry sizes of the tables that a PUT writes entry by entry (R18). -/
def Table.entryBytes : Table → Nat
  | .node => 13 | .subscribe => 2 | .forward => 2 | .screen => 8 | .layout => 12 | .hotkey => 5 | .deskHalf => 16
  | .source => 53 | .steering => 35 | .counters => 4 | .events => 4 | .resetCause => 1
  | .regionPending | .regionActive | .preset => 0

/-- The tables that take writes (R169 check 2). -/
def Table.writable : Table → Bool
  | .node | .subscribe | .forward | .screen | .layout | .regionPending | .hotkey | .deskHalf => true
  | .regionActive | .preset | .source | .steering | .counters | .events | .resetCause => false

/-- R169 check 4: the index is below the number of entries, and index plus count is at most that number. -/
def inRange (t : Table) (r : Request) : Bool :=
  r.index.toNat < t.entries && r.index.toNat + r.count.toNat ≤ t.entries

/-- R169 check 5: the data holds exactly count times the entry size. -/
def dataFits (t : Table) (r : Request) : Bool := r.data.length == r.count.toNat * t.entryBytes

/-- Whether a PUT passes the header checks 1, 2, 4 and 5 of R169; a list PUT has R112's checks in place of 4 and 5. -/
def putHeaderPasses (r : Request) : Bool :=
  match tableOfCode r.table with
  | none => false
  | some .regionPending => true
  | some t => t.writable && inRange t r && dataFits t r

/-- The row that a request with this kind code is (R17, R168, R169). A PUT that fails the header checks is the row PUT. -/
def requestCommand (kind : Byte) (r : Request) : Instr :=
  match kind.toNat with
  | 1 => if r.table == 11 then .getSource r else .get r
  | 2 =>
    if putHeaderPasses r then
      match tableOfCode r.table with
      | some .node => .putNode r
      | some .subscribe => .putSubscribe r
      | some .forward => .putForward r
      | some .screen => .putScreen r
      | some .layout => .putLayout r
      | some .regionPending => .putRegionPending r
      | some .hotkey => .putHotkey r
      | some .deskHalf => .putDeskHalf r
      | _ => .put r
    else .put r
  | 3 => .getClear r
  | 4 => .swap r
  | 5 => .fence r
  | 6 => .presetStore r
  | 7 => .presetLoad r
  | 8 => .clearEvents r
  | 9 => .describe r
  | 10 => .nodeReset r
  | _ => .unknownRequest kind r

/-! ### From an ended cell to a command (R8, R23) -/

/-- The command that a valid cell is, on the port it arrived on; `node` is the node address held (R23). -/
def commandOfCell (node : Addr) (p : Port) (c : Cell) : Option Instr :=
  match p with
  | .b => some (.portBCell c)
  | .a =>
    match c.kind with
    | .tile => (tileOfPayload c.payload).map (.tile c.origin c.dest)
    | .frameEnd => some (.frameEnd c.origin c.dest (frameEndOfPayload c.payload))
    | .cursor => (cursorOfPayload c.payload).map (.cursor c.origin c.dest)
    | .srcStatus => (srcStatusOfPayload c.payload).map (.srcStatus c.origin c.dest)
    | .mgmtReq =>
      if c.dest = node ∨ c.dest = allDesks then
        some (requestCommand (requestOfCell c).1 (requestOfCell c).2)
      else some (.mgmtReqForwarded c.origin c.dest c.payload)
    | .mgmtRsp | .event | .hidKey | .hidPointer | .refresh | .deskStatus => some (.wrongDirectionCell c)

/-- The command that the end of a cell in reception is: total, a bad cell by the check it fails first (R6, R8). -/
def commandOfEnding (node : Addr) (p : Port) (c : RxCell) (e : CellEnding) : Instr :=
  match firstFailure c e with
  | some _ => .badCell p c e
  | none => ((cellOfBytes c.bytes).bind (commandOfCell node p)).getD (.badCell p c e)

/-- The kind code of each request row (R17). -/
def requestKind : Instr → Option (Byte × Request)
  | .get r | .getSource r => some (1, r)
  | .put r | .putNode r | .putSubscribe r | .putForward r | .putScreen r | .putLayout r | .putRegionPending r
  | .putHotkey r | .putDeskHalf r => some (2, r)
  | .getClear r => some (3, r)
  | .swap r => some (4, r)
  | .fence r => some (5, r)
  | .presetStore r => some (6, r)
  | .presetLoad r => some (7, r)
  | .clearEvents r => some (8, r)
  | .describe r => some (9, r)
  | .nodeReset r => some (10, r)
  | .unknownRequest k r => some (k, r)
  | .powerOn _ | .resetLineAssert | .resetLineRelease _ | .linkUp _ _ | .linkDown _ | .framingOverrun _ _
  | .qualityWindowEnd _ | .badCell _ _ _ | .wrongDirectionCell _ | .tile _ _ _ | .frameEnd _ _ _ | .cursor _ _ _
  | .srcStatus _ _ _ | .mgmtReqForwarded _ _ _ | .portBCell _ | .portABegin | .fenceAnswerDeferred | .portBBegin
  | .txComplete _ _ | .eventHoldoffEnd | .silenceExpiryStale _ | .silenceExpiryLost _ | .statusPeriodExpiry _
  | .verticalStart _ | .deskPointerReport _ _ _ _ | .deskKeyboardReport _ _ | .lampMessageBegin | .lampMessageComplete
  | .acquisitionCodeGroup _ _ | .upCodeGroup _ _ => none

/-- The valid cell whose end a command is, with the port it arrives on, for the rows that are one (R8). -/
def cellOfCommand (node : Addr) (i : Instr) : Option (Port × Cell) :=
  match i with
  | .wrongDirectionCell c => some (.a, c)
  | .tile o d t => some (.a, ⟨.tile, o, d, tilePayload t⟩)
  | .frameEnd o d f => some (.a, ⟨.frameEnd, o, d, frameEndPayload f⟩)
  | .cursor o d k => some (.a, ⟨.cursor, o, d, cursorPayload k⟩)
  | .srcStatus o d x => some (.a, ⟨.srcStatus, o, d, srcStatusPayload x⟩)
  | .mgmtReqForwarded o d l => some (.a, ⟨.mgmtReq, o, d, l⟩)
  | .portBCell c => some (.b, c)
  | i => (requestKind i).map fun q => (.a, requestCell node q.1 q.2)

/-! ### The table's words -/

/-- No row of spec/opcode_table.json gives bits, so no word spells a command. -/
def decodeTableWord (_nbits _w : Nat) : Option Instr := none

end Sys2Proof
end

