-- ==== Sys2Proof/Config.lean ====
section
/-!
DEFINITION. What the manual leaves open, and the constants of time. The manual counts time in milliseconds; the model's clock
counts microseconds, so that a picture period (R91) can be named.
-/

namespace Sys2Proof

/-- The free bytes: the value a byte of an answer holds where the manual states none (the screen and id bytes of an absent
target or capture in a STEERING entry, R18). DESIGN CHOICE 1: the n-th such byte the node sends is `freeByte n`, and nothing
constrains it. Safe. -/
opaque Config.freeByte : Nat → Byte

/-- One millisecond on the model's clock. -/
def Config.ms : Nat := 1000

/-- A source is STALE this long after its last accepted cell (R40). -/
def Config.staleAfter : Nat := 300 * Config.ms

/-- A source is LOST this long after its last accepted cell (R40). -/
def Config.lostAfter : Nat := 1000 * Config.ms

/-- The period of DESK_STATUS cells (R47). -/
def Config.statusPeriod : Nat := 100 * Config.ms

/-- The event holdoff (R33). -/
def Config.holdoff : Nat := 10 * Config.ms

/-- The picture period at a refresh rate, in microseconds, rounded down (R91). -/
def Config.picturePeriod (rate : Nat) : Nat := 1000 * Config.ms / rate

end Sys2Proof
end

