-- ==== Sys2Proof/Machine/State.lean ====
section
/-!
DEFINITION. The state of the CT-2440 as plain data, every piece of state that the manual gives a block, and the state right after
power-on. INVENTORY.md lists each field with the rule that names it. `pending` (the queue of commands), `now` (the model's clock)
and `freeCount` (the number of free bytes sent so far) are the model's own.
-/

namespace Sys2Proof.Machine

/-! ### Link ports -/

/-- Whether a port has lock (R2). -/
inductive LinkState where
  | down | acquiring | up
deriving DecidableEq, Repr

/-- Link quality with hysteresis (R10). -/
inductive Quality where
  | good | degraded
deriving DecidableEq, Repr

/-- Where a cell in flight came from: what its completion or abort is told to (R34, R35). A REFRESH names the image slot and the
creation order number of its entry; a response says whether it answers a NODE_RESET. -/
inductive TxClass where
  | forwarded
  | hidEntry
  | response (isReset : Bool)
  | event
  | refresh (image : ImageIx) (creation : BitVec 32)
  | deskStatus (i : Slot)
deriving DecidableEq, Repr

/-- The cell in flight on a transmitter; its contents are fixed at its begin (R11, R34). -/
structure InFlight where
  cell : Cell
  source : TxClass
deriving DecidableEq, Repr

/-- The state of one link port (the table of The Desk Link); its counters stand among the 76. -/
structure PortState where
  link : LinkState
  lockCount : Nat
  invalidRun : Nat
  rx : Option RxCell
  quality : Quality
  windowCount : Nat
  windowBad : Nat
  tx : Option InFlight
deriving DecidableEq, Repr

/-- The two sides the Uplink Arbiter serves (R31). -/
inductive Side where
  | forwarded | own
deriving DecidableEq, Repr

/-- An entry of the HID Uplink Queue (R27). -/
inductive HidEntry where
  | key (slot : Slot) (modifiers : Byte) (keys : List Byte)
  | pointer (slot : Slot) (screen : SrcScreen) (ax ay : Nat) (buttons : BitVec 5) (wheel : Int)
deriving DecidableEq, Repr

/-! ### Sources -/

/-- The states of a Source Table slot (R38). -/
inductive SrcState where
  | absent | waiting | live | stale | lost
deriving DecidableEq, Repr

/-- The admission of a present screen entry (R38). -/
inductive Admission where
  | notAdmitted
  | admitted (image : ImageIx)
  | unusable
deriving DecidableEq, Repr

/-- A present screen entry of a source (R38, R49). -/
structure ScreenEntry where
  width : Nat
  height : Nat
  admission : Admission
deriving DecidableEq, Repr

/-- A stored cursor record (R52); the image holds 1024 two-bit codes, four a byte, the first in the two highest bits (R15). -/
structure CursorRecord where
  hidden : Bool
  hotX : Nat
  hotY : Nat
  colourA : Colour
  colourB : Colour
  image : Vector Byte 256
deriving DecidableEq, Repr

/-- A Source Table record (R38). `addr` is the slot's Subscription Table entry (R19). `silenceTimer` holds the time the running
silence timer measures from, `statusTimer` the time the running status period began. -/
structure SourceRecord where
  addr : Option Addr
  state : SrcState
  lastAccepted : Option Nat
  half : Option (Vector Word16 8)
  changed : Bool
  overrun : Bool
  lamps : BitVec 5
  screenCount : Nat
  screens : Vector (Option ScreenEntry) 4
  cursor : Option CursorRecord
  deskHalf : Vector Word16 8
  due : Bool
  silenceTimer : Option Nat
  statusTimer : Option Nat
deriving DecidableEq, Repr

/-! ### Image slots -/

/-- An entry of a Refresh Request List (R75). -/
structure RefreshEntry where
  first : Nat
  count : Nat
  request : Option Frame
  remaining : Nat
  sent : Bool
  creation : BitVec 32
deriving DecidableEq, Repr

/-- The direction in which a scan cursor moves (R83). -/
inductive ScanDir where
  | up | down
deriving DecidableEq, Repr

/-- What an image slot in use holds beside its pixels: the screen entry it belongs to (R48), the tracking record (R57), the stamps
(a tile that is not listed has an absent stamp), the Refresh Request List (R75) and the scan state (R83). -/
structure Tracking where
  owner : Slot
  screen : SrcScreen
  width : Nat
  height : Nat
  current : Option Frame
  received : Nat
  closed : Bool
  stamps : List (Nat × Frame)
  entries : List RefreshEntry
  cursor : Nat
  dir : ScanDir
deriving DecidableEq, Repr

/-! ### Regions and desk screens -/

/-- The source part of a region record (R92). -/
structure SourcePart where
  slot : Slot
  screen : SrcScreen
  u0 : Nat
  v0 : Nat
  z : Int
deriving DecidableEq, Repr

/-- A region record (R92). -/
structure Region where
  id : Byte
  x : Nat
  y : Nat
  w : Nat
  h : Nat
  source : Option SourcePart
  input : Bool
  fill : Colour
deriving DecidableEq, Repr

/-- The SCREEN entry of a desk screen, and the begin of the picture in progress if it is enabled (R89 to R91). -/
structure ScreenSettings where
  enabled : Bool
  width : Nat
  height : Nat
  rate : Nat
  blank : Bool
  identify : Bool
  picture : Option Nat
deriving DecidableEq, Repr

/-- A fence of the fence list (R121). -/
structure FenceEntry where
  tag : Word16
  origin : Addr
  awaited : BitVec 4
deriving DecidableEq, Repr

/-! ### Steering -/

/-- The four sides of a desk screen (R126). -/
inductive Edge where
  | right | left | top | bottom
deriving DecidableEq, Repr

/-- One link of the Desk Layout (R126). -/
structure LayoutLink where
  neighbour : Option Desk
  offset : Int
deriving DecidableEq, Repr

/-- The Desk Layout entry of one desk screen (R126). -/
structure LayoutEntry where
  right : LayoutLink
  left : LayoutLink
  top : LayoutLink
  bottom : LayoutLink
deriving DecidableEq, Repr

/-- A capture record (R125). -/
structure Capture where
  screen : Desk
  id : Byte
  slot : Slot
  srcScreen : SrcScreen
  ax : Nat
  ay : Nat
deriving DecidableEq, Repr

/-- The steering record (R125). Button k stands in bit k - 1. -/
structure Steering where
  screen : Option Desk
  px : Nat
  py : Nat
  residueX : Int
  residueY : Int
  buttons : BitVec 5
  swallowed : BitVec 5
  target : Option (Desk × Byte)
  capture : Option Capture
deriving DecidableEq, Repr

/-- An entry of the Hotkey Table (R156), bytes as stored. -/
structure Hotkey where
  valid : Bool
  modifiers : Byte
  key : Byte
  action : Byte
  argument : Byte
deriving DecidableEq, Repr

/-- The keyboard state of the desk (R146). -/
structure Keyboard where
  modifiers : Byte
  keys : List Byte
  swallowed : List Byte
  forwarded : List Byte
  focus : Option Slot
  lock : Bool
  hotkeys : Vector Hotkey 16
  lamps : BitVec 5
deriving DecidableEq, Repr

/-! ### Management -/

/-- The NODE table (R170). -/
structure NodeTable where
  address : Addr
  shortLock : Bool
  qualityHigh : Nat
  qualityLow : Nat
  ageLimit : Nat
  speed : Nat
  enable : BitVec 16
  background : Colour
deriving DecidableEq, Repr

/-- The statuses of a response (R17). -/
inductive Status where
  | ok | clamped | noTable | noIndex | badValue | readOnly | busy | empty | badRequest
deriving DecidableEq, Repr

/-- A response of the response queue (R167); `isReset` marks the answer to a NODE_RESET. -/
structure Response where
  tag : Word16
  status : Status
  data : List Byte
  dest : Addr
  isReset : Bool
deriving DecidableEq, Repr

/-- The event flags, in the bit order of R16. -/
inductive Flag where
  | nodeRestarted | sourceJoined | sourceStale | sourceLost | geometryChanged | admitFull | frameTorn | linkADown
  | linkBDown | linkADegraded | linkBDegraded | hidOverflow | valueClamped | swapDone | focusChanged | hotkeyUsed
deriving DecidableEq, Repr

/-- The 76 counters, in the order of R175. -/
inductive Counter where
  | aRxCells | aRxBadCode | aRxBadFrame | aRxBadLength | aRxBadCrc | aRxBadAddress | aRxBadKind | aRxBadSize | aRxWrongDir | aRxCut | aLockLosses | aTxCells | aTxAborted
  | bRxCells | bRxBadCode | bRxBadFrame | bRxBadLength | bRxBadCrc | bRxBadAddress | bRxBadKind | bRxBadSize | bRxCut | bLockLosses | bTxCells | bTxAborted
  | fwdUnwanted | fwdBTxDrop | fwdUpDrop | hidKeyMerged | hidPtrMerged | hidDrop | hidPurged
  | srcJoined | srcStale | srcLost | srcNotLive | srcBadStatus | srcBadCursor | srcHalfOverrun | srcUnusable | srcGeometry | srcAdmitFull
  | tsTiles | tsFramesComplete | tsTorn | tsResync | tsLate | tsBadTile | tsTileNotAdmitted | tsEndNotAdmitted
  | rsRuns | rsDeferred | rsRetired | rsExpired | rsSent | rsCeiling
  | vcSwaps | vcSwapsCoalesced | vcListsRefused | vcFenceBusy
  | psReports | psClamped | psCrossings | psCaptures | psCaptureBroken | psSwallowed
  | ksReports | ksRollover | ksHotkeys | ksFocusChanges | ksFocusHeld | ksLampSends
  | mgRequests | mgDropped | mgRefused | mgEventsSent
deriving DecidableEq, Repr

/-! ### The machine -/

/-- The state of the node. -/
structure State where
  portA : PortState
  portB : PortState
  forwardSet : Vector Addr 64
  portBQueue : List Cell
  uplinkQueue : List Cell
  hidQueue : List HidEntry
  lastServed : Side
  lastEventBegan : Option Nat
  sources : Vector SourceRecord 8
  images : Vector (Option Tracking) 16
  imageMem : List (Nat × TilePixels)
  creation : BitVec 32
  screens : Vector ScreenSettings 4
  pendingLists : Vector (List Region) 4
  activeLists : Vector (List Region) 4
  swapPending : Vector Bool 4
  presets : Vector (Option (Vector (List Region) 4)) 8
  fences : List FenceEntry
  pointer : Steering
  layout : Vector LayoutEntry 4
  keyboard : Keyboard
  lampMessage : Option (BitVec 5)
  lampSent : Option (BitVec 5)
  node : NodeTable
  responses : List Response
  controller : Addr
  resetPending : Bool
  events : BitVec 16
  eventPending : Bool
  counters : Vector Nat 76
  cause : BitVec 4
  resetLine : Bool
  now : Nat
  freeCount : Nat
  pending : List Instr
deriving DecidableEq, Repr

/-- The faults of the machine: none. The manual gives every command its effect in every state, and no meaning stops with a fault. -/
inductive Fault where
deriving DecidableEq, Repr

/-- The reasons for which the model gives no next state. -/
inductive Refusal where
  /-- Raised by an arm of `exec` whose command has no meaning yet (no arm is one now). Safe: the model stops. -/
  | notModelled (mnemonic : String)
deriving DecidableEq, Repr

/-! ### Reset values -/

/-- A port after power-on or the reset line (R4). -/
def PortState.reset : PortState := ⟨.down, 0, 0, none, .good, 0, 0, none⟩

/-- The desk half after a reset: word 0 the node address, the others 0 (R46). -/
def deskHalfReset (node : Addr) : Vector Word16 8 := (Vector.replicate 8 0).set 0 (node.setWidth 16)

/-- A Source Table record after a reset (R38). -/
def SourceRecord.reset (node : Addr) : SourceRecord where
  addr := none
  state := .absent
  lastAccepted := none
  half := none
  changed := false
  overrun := false
  lamps := 0
  screenCount := 0
  screens := Vector.replicate 4 none
  cursor := none
  deskHalf := deskHalfReset node
  due := false
  silenceTimer := none
  statusTimer := none

/-- A SCREEN entry after a reset (R89); a disabled screen has no picture. -/
def ScreenSettings.reset : ScreenSettings := ⟨false, 1920, 1080, 60, true, false, none⟩

/-- A Desk Layout entry after a reset (R126). -/
def LayoutEntry.reset : LayoutEntry := ⟨⟨none, 0⟩, ⟨none, 0⟩, ⟨none, 0⟩, ⟨none, 0⟩⟩

/-- The steering record after a reset (R125). -/
def Steering.reset : Steering := ⟨none, 0, 0, 0, 0, 0, 0, none, none⟩

/-- A Hotkey Table entry after a reset (R156). -/
def Hotkey.reset : Hotkey := ⟨false, 0, 0, 0, 0⟩

/-- The keyboard state after a reset (R146). -/
def Keyboard.reset : Keyboard := ⟨0, [], [], [], none, false, Vector.replicate 16 Hotkey.reset, 0⟩

/-- The NODE table after a reset, with the node address given (R170): NODE_RESTARTED and SOURCE_LOST enabled. -/
def NodeTable.reset (node : Addr) : NodeTable := ⟨node, false, 16, 2, 600, 6, 0b1001, Colour.black⟩

/-- What every kind of reset leaves, given the node address and the reset cause record (R179): the flags hold NODE_RESTARTED
alone, and an EVENT cell is pending (R176). The kinds of reset differ from it in the items that R4, R36 and R180 keep. -/
def State.afterReset (node : Addr) (cause : BitVec 4) : State where
  portA := PortState.reset
  portB := PortState.reset
  forwardSet := Vector.replicate 64 0
  portBQueue := []
  uplinkQueue := []
  hidQueue := []
  lastServed := .forwarded
  lastEventBegan := none
  sources := Vector.replicate 8 (SourceRecord.reset node)
  images := Vector.replicate 16 none
  imageMem := []
  creation := 0
  screens := Vector.replicate 4 ScreenSettings.reset
  pendingLists := Vector.replicate 4 []
  activeLists := Vector.replicate 4 []
  swapPending := Vector.replicate 4 false
  presets := Vector.replicate 8 none
  fences := []
  pointer := Steering.reset
  layout := Vector.replicate 4 LayoutEntry.reset
  keyboard := Keyboard.reset
  lampMessage := none
  lampSent := none
  node := NodeTable.reset node
  responses := []
  controller := 0
  resetPending := false
  events := 1
  eventPending := true
  counters := Vector.replicate 76 0
  cause := cause
  resetLine := false
  now := 0
  freeCount := 0
  pending := []

/-- Whether a strap reading defaults the node address (R178). -/
def strapsDefault (straps : BitVec 12) : Bool := straps == 0 || straps == 4095

/-- The node address that a strap reading gives (R178). -/
def strapAddress (straps : BitVec 12) : Addr := if strapsDefault straps then 4094 else straps

/-- The reset cause record at power-on: POWER_ON, and STRAP_DEFAULTED if the straps read 0 or 4095 (R178, bits of R18). -/
def powerOnCause (straps : BitVec 12) : BitVec 4 := if strapsDefault straps then 0b1001 else 0b0001

/-- The node right after power-on with its straps reading `straps` (R179). -/
def State.poweredOn (straps : BitVec 12) : State := State.afterReset (strapAddress straps) (powerOnCause straps)

/-- The machine right after reset: power-on with every strap reading 0 (DESIGN CHOICE 2: the manual gives no strap reading; a
reading of 0 makes the node address 4094 by R178). -/
def State.reset : State := State.poweredOn 0

end Sys2Proof.Machine
end

