-- ==== Sys2Proof/Machine/Ops.lean ====
section
/-!
DEFINITION. The named operations over the state that every family uses: field access by port, slot, screen and image slot, the
counters, the sorted stores for stamps and image memory, the clock and the queues between blocks.
-/

namespace Sys2Proof.Machine

/-! ### Small lists -/

/-- The slots in index order. -/
def allSlots : List Slot := [0, 1, 2, 3, 4, 5, 6, 7]

/-- The desk screens in index order. -/
def allDesks4 : List Desk := [0, 1, 2, 3]

/-- The source screens in index order. -/
def allSrcScreens : List SrcScreen := [0, 1, 2, 3]

/-- The image slots in index order. -/
def allImages : List ImageIx := [0, 1, 2, 3, 4, 5, 6, 7, 8, 9, 10, 11, 12, 13, 14, 15]

/-- Apply an operation `n` times. -/
def times {α : Type} (f : α → α) : Nat → α → α
  | 0, x => x
  | n + 1, x => times f n (f x)

/-- A value clamped into a range. -/
def clampNat (lo hi x : Nat) : Nat := max lo (min hi x)

/-- A signed value clamped into a range. -/
def clampInt (lo hi x : Int) : Int := max lo (min hi x)

/-! ### Counters (R175) -/

/-- The index of each counter in the COUNTERS table (R175). -/
def Counter.index : Counter → Fin 76
  | .aRxCells => 0 | .aRxBadCode => 1 | .aRxBadFrame => 2 | .aRxBadLength => 3 | .aRxBadCrc => 4 | .aRxBadAddress => 5 | .aRxBadKind => 6 | .aRxBadSize => 7 | .aRxWrongDir => 8 | .aRxCut => 9 | .aLockLosses => 10 | .aTxCells => 11 | .aTxAborted => 12
  | .bRxCells => 13 | .bRxBadCode => 14 | .bRxBadFrame => 15 | .bRxBadLength => 16 | .bRxBadCrc => 17 | .bRxBadAddress => 18 | .bRxBadKind => 19 | .bRxBadSize => 20 | .bRxCut => 21 | .bLockLosses => 22 | .bTxCells => 23 | .bTxAborted => 24
  | .fwdUnwanted => 25 | .fwdBTxDrop => 26 | .fwdUpDrop => 27 | .hidKeyMerged => 28 | .hidPtrMerged => 29 | .hidDrop => 30 | .hidPurged => 31
  | .srcJoined => 32 | .srcStale => 33 | .srcLost => 34 | .srcNotLive => 35 | .srcBadStatus => 36 | .srcBadCursor => 37 | .srcHalfOverrun => 38 | .srcUnusable => 39 | .srcGeometry => 40 | .srcAdmitFull => 41
  | .tsTiles => 42 | .tsFramesComplete => 43 | .tsTorn => 44 | .tsResync => 45 | .tsLate => 46 | .tsBadTile => 47 | .tsTileNotAdmitted => 48 | .tsEndNotAdmitted => 49
  | .rsRuns => 50 | .rsDeferred => 51 | .rsRetired => 52 | .rsExpired => 53 | .rsSent => 54 | .rsCeiling => 55
  | .vcSwaps => 56 | .vcSwapsCoalesced => 57 | .vcListsRefused => 58 | .vcFenceBusy => 59
  | .psReports => 60 | .psClamped => 61 | .psCrossings => 62 | .psCaptures => 63 | .psCaptureBroken => 64 | .psSwallowed => 65
  | .ksReports => 66 | .ksRollover => 67 | .ksHotkeys => 68 | .ksFocusChanges => 69 | .ksFocusHeld => 70 | .ksLampSends => 71
  | .mgRequests => 72 | .mgDropped => 73 | .mgRefused => 74 | .mgEventsSent => 75

/-- The value a counter stays at (R175, Law 12). -/
def counterTop : Nat := 4294967295

/-- The value of a counter. -/
def State.counter (s : State) (c : Counter) : Nat := s.counters.get c.index

/-- A counter increases by `n`, stopping at 4,294,967,295 (R175). -/
def bumpBy (c : Counter) (n : Nat) (s : State) : State :=
  { s with counters := s.counters.set c.index (min counterTop (s.counter c + n)) c.index.isLt }

/-- A counter increases by one (R175). -/
def bump (c : Counter) (s : State) : State := bumpBy c 1 s

/-! ### Access to the indexed parts -/

def State.port (s : State) : Port → PortState
  | .a => s.portA
  | .b => s.portB

def setPort (p : Port) (x : PortState) (s : State) : State :=
  match p with
  | .a => { s with portA := x }
  | .b => { s with portB := x }

def State.src (s : State) (i : Slot) : SourceRecord := s.sources.get i

def setSrc (i : Slot) (x : SourceRecord) (s : State) : State := { s with sources := s.sources.set i x i.isLt }

def State.image (s : State) (x : ImageIx) : Option Tracking := s.images.get x

def setImage (x : ImageIx) (t : Option Tracking) (s : State) : State := { s with images := s.images.set x t x.isLt }

def State.screen (s : State) (d : Desk) : ScreenSettings := s.screens.get d

def setScreen (d : Desk) (x : ScreenSettings) (s : State) : State := { s with screens := s.screens.set d x d.isLt }

def State.active (s : State) (d : Desk) : List Region := s.activeLists.get d

def setActive (d : Desk) (l : List Region) (s : State) : State := { s with activeLists := s.activeLists.set d l d.isLt }

def State.pendingList (s : State) (d : Desk) : List Region := s.pendingLists.get d

def setPendingList (d : Desk) (l : List Region) (s : State) : State :=
  { s with pendingLists := s.pendingLists.set d l d.isLt }

def State.swapWaits (s : State) (d : Desk) : Bool := s.swapPending.get d

def setSwapWaits (d : Desk) (b : Bool) (s : State) : State := { s with swapPending := s.swapPending.set d b d.isLt }

/-- A state of LIVE or STALE: the slot is heard and its screens may hold image slots (R38). -/
def SrcState.heard : SrcState → Bool
  | .live | .stale => true
  | .absent | .waiting | .lost => false

/-- Whether a slot is LIVE or STALE. -/
def State.heard (s : State) (i : Slot) : Bool := (s.src i).state.heard

/-- The slot a subscribed origin address stands in (R19): the slot whose entry holds it. -/
def State.slotOf (s : State) (a : Addr) : Option Slot := allSlots.find? fun i => (s.src i).addr == some a

/-- Whether an origin is in the Forward Set (R20): some entry equals it and it is not 0. -/
def State.forwards (s : State) (a : Addr) : Bool := a != 0 && s.forwardSet.toList.contains a

/-- A screen entry of a slot (R38). -/
def State.entry (s : State) (i : Slot) (k : SrcScreen) : Option ScreenEntry := (s.src i).screens.get k

def setEntry (i : Slot) (k : SrcScreen) (e : Option ScreenEntry) (s : State) : State :=
  setSrc i { s.src i with screens := (s.src i).screens.set k e k.isLt } s

/-- The image slot of an entry that is ADMITTED. -/
def ScreenEntry.admittedIn (e : ScreenEntry) : Option ImageIx :=
  match e.admission with
  | .admitted x => some x
  | .notAdmitted | .unusable => none

/-- The image slot of the source screen, if its slot is LIVE or STALE and its entry is present and ADMITTED (R60, R98, R132). -/
def State.admittedImage (s : State) (i : Slot) (k : SrcScreen) : Option ImageIx :=
  if s.heard i then (s.entry i k).bind ScreenEntry.admittedIn else none

/-- The source screen a screen byte names: 0..3 (R60). -/
def screenOfByte (b : Byte) : Option SrcScreen := if h : b.toNat < 4 then some ⟨b.toNat, h⟩ else none

/-! ### Sorted stores: stamps and image memory -/

/-- The value stored at a key. -/
def storeGet {α : Type} : List (Nat × α) → Nat → Option α
  | [], _ => none
  | (k, v) :: t, n => if n = k then some v else storeGet t n

/-- A store with the value at a key replaced; keys stay strictly rising. -/
def storePut {α : Type} : List (Nat × α) → Nat → α → List (Nat × α)
  | [], n, x => [(n, x)]
  | (k, v) :: t, n, x =>
    if n < k then (n, x) :: (k, v) :: t else if n = k then (n, x) :: t else (k, v) :: storePut t n x

/-- A store with nothing at a key. -/
def storeErase {α : Type} : List (Nat × α) → Nat → List (Nat × α)
  | [], _ => []
  | (k, v) :: t, n => if n = k then t else (k, v) :: storeErase t n

/-- Keys strictly rising. -/
def storeSorted {α : Type} : List (Nat × α) → Bool
  | [] => true
  | [_] => true
  | (k, _) :: (k', v') :: t => k < k' && storeSorted ((k', v') :: t)

/-- What the image memory holds at a tile position that nothing has written: black (DESIGN CHOICE 3; a pixel is shown only under a
present stamp, which the tile's write sets, so no picture shows it). -/
def blankTile : TilePixels := Vector.replicate 256 Colour.black

/-- The address of a tile position in the image memory: image slots of 240 × 135 tile positions each (R48). -/
def tileAddress (x : ImageIx) (column row : Nat) : Nat := (x.val * 135 + row) * 240 + column

/-- The tile at an address of the image memory. -/
def memRead (m : List (Nat × TilePixels)) (a : Nat) : TilePixels := (storeGet m a).getD blankTile

/-- A tile written whole at an address; writing what an unlisted address reads as removes the entry (R64). -/
def memWrite (m : List (Nat × TilePixels)) (a : Nat) (t : TilePixels) : List (Nat × TilePixels) :=
  if t = blankTile then storeErase m a else storePut m a t

/-- The canonical form of the image memory: addresses strictly rising, no entry equal to what an unlisted address reads as. -/
def Memory.wf (m : List (Nat × TilePixels)) : Bool := storeSorted m && m.all fun e => e.2 != blankTile

/-! ### The clock -/

/-- The clock moves on to a moment, unless it has passed it. -/
def advanceTo (t : Nat) (s : State) : State := { s with now := max s.now t }

/-- What the node does on an empty queue: one millisecond passes (DESIGN CHOICE 4). -/
def tick (s : State) : State := { s with now := s.now + Config.ms }

/-- Whether the event holdoff runs: less than 10 ms since the last EVENT cell began (R33). -/
def State.holdoffRuns (s : State) : Bool :=
  match s.lastEventBegan with
  | none => false
  | some t => s.now < t + Config.holdoff

/-! ### Commands and the reset line -/

/-- While the reset line is asserted the node executes nothing (R179): every command but power-on and the line's release leaves
the state as it is. -/
def whenRunning (f : State → State) (s : State) : State := if s.resetLine then s else f s

/-- A command's effect where the event it names can happen, and no change where the manual's rules say that it cannot
(DESIGN CHOICE 5). -/
def onlyIf (b : Bool) (f : State → State) (s : State) : State := if b then f s else s

/-! ### Queues between blocks -/

/-- R24: a cell offered to the Port B transmit queue joins it if Port B is UP and fewer than 32 cells are queued. -/
def offerB (c : Cell) (s : State) : State :=
  if s.portB.link = .up ∧ s.portBQueue.length < 32 then { s with portBQueue := s.portBQueue ++ [c] }
  else bump .fwdBTxDrop s

/-- R167: a response joins the response queue; a status other than OK or CLAMPED increases MG_REFUSED. -/
def pushResponse (r : Response) (s : State) : State :=
  let s := if r.status = .ok ∨ r.status = .clamped then s else bump .mgRefused s
  { s with responses := s.responses ++ [r] }

/-- The answer to a request: its tag, a status and data, for the request's own origin (R166, R17). -/
def respond (r : Request) (st : Status) (data : List Byte) (s : State) : State :=
  pushResponse ⟨r.tag, st, data, r.origin, false⟩ s

/-- Whether the response queue has a free place (R166, R167). -/
def State.responseRoom (s : State) : Bool := s.responses.length < 8

end Sys2Proof.Machine
end

