-- ==== Sys2Proof/Machine/Flags.lean ====
section
/-!
DEFINITION. The flags of the node: the sixteen event flags with the EVENT pendency (R16, R176), and the four flags in word 1 of a
desk half with the due flag they set (R16, R46, R47).
-/

namespace Sys2Proof.Machine

/-! ### Event flags -/

/-- The bit of each event flag (R16). -/
def Flag.bit : Flag → Nat
  | .nodeRestarted => 0 | .sourceJoined => 1 | .sourceStale => 2 | .sourceLost => 3
  | .geometryChanged => 4 | .admitFull => 5 | .frameTorn => 6 | .linkADown => 7
  | .linkBDown => 8 | .linkADegraded => 9 | .linkBDegraded => 10 | .hidOverflow => 11
  | .valueClamped => 12 | .swapDone => 13 | .focusChanged => 14 | .hotkeyUsed => 15

/-- A flag as a flag set of one member. -/
def Flag.mask (f : Flag) : BitVec 16 := BitVec.twoPow 16 f.bit

/-- Whether a flag is set. -/
def State.flagged (s : State) (f : Flag) : Bool := s.events.getLsbD f.bit

/-- R176: a cause sets its flag; a flag that goes from clear to set and is enabled makes an EVENT cell pending. -/
def setFlag (f : Flag) (s : State) : State :=
  if s.flagged f then s
  else { s with events := s.events ||| f.mask, eventPending := s.eventPending || s.node.enable.getLsbD f.bit }

/-- The flags a port sets at loss of lock (R3). -/
def downFlag : Port → Flag
  | .a => .linkADown
  | .b => .linkBDown

/-- The flags a port sets when its quality becomes DEGRADED (R10). -/
def degradedFlag : Port → Flag
  | .a => .linkADegraded
  | .b => .linkBDegraded

/-! ### Word 1 of a desk half -/

/-- The flags of word 1 (R16, R46). -/
inductive HalfFlag where
  | focus | pointer | capture | viewing
deriving DecidableEq, Repr

/-- The bit of each flag of word 1 (R16). -/
def HalfFlag.bit : HalfFlag → Nat
  | .focus => 0 | .pointer => 1 | .capture => 2 | .viewing => 3

/-- A flag of a slot's word 1. -/
def State.halfFlag (s : State) (i : Slot) (f : HalfFlag) : Bool := ((s.src i).deskHalf.get 1).getLsbD f.bit

/-- A slot becomes due for a DESK_STATUS cell, if it is LIVE or STALE (R47). -/
def makeDue (i : Slot) (s : State) : State :=
  if s.heard i then setSrc i { s.src i with due := true } s else s

/-- Word 1 with one flag set or cleared. -/
def withBit (w : Word16) (k : Nat) (v : Bool) : Word16 :=
  if v then w ||| BitVec.twoPow 16 k else w &&& ~~~ BitVec.twoPow 16 k

/-- A flag of word 1 set or cleared; a word 1 that changes value makes the slot due (R46, R47). -/
def setHalfFlag (i : Slot) (f : HalfFlag) (v : Bool) (s : State) : State :=
  if s.halfFlag i f = v then s
  else
    let x := s.src i
    makeDue i (setSrc i { x with deskHalf := x.deskHalf.set 1 (withBit (x.deskHalf.get 1) f.bit v) } s)

end Sys2Proof.Machine
end

