-- ==== Sys2Proof/Machine/Hid.lean ====
section
/-!
DEFINITION. The HID Uplink Queue: how it receives, merges, drops and purges keyboard and pointer entries (R27 to R30).
-/

namespace Sys2Proof.Machine

/-- The slot an entry belongs to (R27). -/
def HidEntry.slot : HidEntry → Slot
  | .key i _ _ => i
  | .pointer i _ _ _ _ _ => i

/-- Whether an entry is the keyboard entry of a slot. -/
def HidEntry.isKeyOf (i : Slot) : HidEntry → Bool
  | .key j _ _ => i == j
  | .pointer _ _ _ _ _ _ => false

/-- Whether an entry is a pointer entry. -/
def HidEntry.isPointer : HidEntry → Bool
  | .key _ _ _ => false
  | .pointer _ _ _ _ _ _ => true

/-- Whether an entry is a pointer entry of a slot. -/
def HidEntry.isPointerOf (i : Slot) : HidEntry → Bool
  | .key _ _ _ => false
  | .pointer j _ _ _ _ _ => i == j

/-- R28: a keyboard entry replaces the slot's queued one in place, or joins the tail. -/
def giveKey (i : Slot) (modifiers : Byte) (keys : List Byte) (s : State) : State :=
  if s.hidQueue.any (HidEntry.isKeyOf i) then
    bump .hidKeyMerged
      { s with hidQueue := s.hidQueue.map fun e => if e.isKeyOf i then .key i modifiers keys else e }
  else { s with hidQueue := s.hidQueue ++ [.key i modifiers keys] }

/-- R29: two pointer entries of a slot merge when source screen and button set agree: the new coordinates, the clamped sum of the
wheels. -/
def mergeEntries (old new : HidEntry) : Option HidEntry :=
  match old, new with
  | .pointer i k _ _ b w, .pointer j k' ax ay b' w' =>
    if i = j ∧ k = k' ∧ b = b' then some (.pointer i k ax ay b (clampInt (-127) 127 (w + w'))) else none
  | _, _ => none

/-- R29: the queue with the new entry merged into the newest pointer entry of its slot, if those two merge. -/
def mergeNewest (new : HidEntry) : List HidEntry → Option (List HidEntry)
  | [] => none
  | e :: t =>
    if t.any (HidEntry.isPointerOf new.slot) then (mergeNewest new t).map (e :: ·)
    else (mergeEntries e new).map (· :: t)

/-- R29: a pointer entry merges, joins the tail while fewer than 24 pointer entries are queued, or is dropped with HID_OVERFLOW. -/
def givePointer (i : Slot) (screen : SrcScreen) (ax ay : Nat) (buttons : BitVec 5) (wheel : Int) (s : State) : State :=
  let new := HidEntry.pointer i screen ax ay buttons wheel
  match mergeNewest new s.hidQueue with
  | some q => bump .hidPtrMerged { s with hidQueue := q }
  | none =>
    if s.hidQueue.countP HidEntry.isPointer < 24 then { s with hidQueue := s.hidQueue ++ [new] }
    else setFlag .hidOverflow (bump .hidDrop s)

/-- R30: every entry of a slot still in the queue is removed; HID_PURGED counts them. -/
def purgeHid (i : Slot) (s : State) : State :=
  bumpBy .hidPurged (s.hidQueue.countP fun e => e.slot == i)
    { s with hidQueue := s.hidQueue.filter fun e => e.slot != i }

end Sys2Proof.Machine
end

