-- ==== Sys2Proof/Machine/Focus.lean ====
section
/-!
DEFINITION. The keyboard focus: how it changes, ends and is asked for (R151 to R155), and the lamp state that follows it (R162).
-/

namespace Sys2Proof.Machine

/-- The lamp set shown for a focus: that slot's, or none lit (R162, Law 11). -/
def State.lampsFor (s : State) (b : Option Slot) : BitVec 5 :=
  match b with
  | none => 0
  | some i => (s.src i).lamps

/-- R153 step 1: every key and modifier is released to the old focus, if it is LIVE or STALE. -/
def releaseOld (s : State) : State :=
  match s.keyboard.focus with
  | none => s
  | some i => if s.heard i then giveKey i 0 [] s else s

/-- R153 step 2: every held key that is not yet swallowed joins the swallowed list, and the forwarded list empties. -/
def withholdKeys (s : State) : State :=
  let k := s.keyboard
  { s with keyboard :=
      { k with swallowed := k.swallowed ++ k.keys.filter (fun c => !k.swallowed.contains c), forwarded := [] } }

/-- R153 step 3: the new focus, which is given the held modifiers and no key. -/
def carryOver (b : Option Slot) (s : State) : State :=
  let s := { s with keyboard := { s.keyboard with focus := b } }
  match b with
  | none => s
  | some i => giveKey i s.keyboard.modifiers [] s

/-- One slot's FOCUS flag (R152). -/
def setFocusFlag (v : Bool) (b : Option Slot) (s : State) : State :=
  match b with
  | none => s
  | some i => setHalfFlag i .focus v s

/-- R153 step 4: the change is reported, the FOCUS flags follow it, and the lamp state becomes the new focus's. -/
def reportFocus (a b : Option Slot) (s : State) : State :=
  let s := bump .ksFocusChanges (setFlag .focusChanged s)
  let s := setFocusFlag true b (setFocusFlag false a s)
  { s with keyboard := { s.keyboard with lamps := s.lampsFor b } }

/-- R153: a focus change to `b`, which differs from the focus held. -/
def focusChange (b : Option Slot) (s : State) : State :=
  reportFocus s.keyboard.focus b (carryOver b (withholdKeys (releaseOld s)))

/-- The focus lock set or cleared (R155). -/
def setLock (v : Bool) (s : State) : State := { s with keyboard := { s.keyboard with lock := v } }

/-- R154: if the slot is the focus, the focus ends and the lock clears. -/
def endFocus (i : Slot) (s : State) : State :=
  if s.keyboard.focus = some i then setLock false (focusChange none s) else s

/-- R152: a focus request of the Pointer Steering Unit, refused while the lock is set. -/
def focusRequest (i : Slot) (s : State) : State :=
  if s.keyboard.lock then bump .ksFocusHeld s else focusChange (some i) s

end Sys2Proof.Machine
end

