-- ==== Sys2Proof/Machine/Steering.lean ====
section
/-!
DEFINITION. The Pointer Steering Unit's shared operations: containment and the inverse mapping (R92, R99), targets and routability
(R132), captures and how they break (R131, R135), coordinates (R142), re-evaluation (R136, R138), and placing the pointer
(R139 to R141).
-/

namespace Sys2Proof.Machine

/-! ### Regions -/

/-- R92: a region's rectangle contains a desk pixel. -/
def Region.contains (r : Region) (px py : Nat) : Bool := r.x ≤ px && px < r.x + r.w && (r.y ≤ py && py < r.y + r.h)

/-- The first region, in layer order, of a screen's active list that contains a pixel (R98, R132). -/
def State.regionAt (s : State) (d : Desk) (px py : Nat) : Option Region := (s.active d).find? fun r => r.contains px py

/-- The region of a screen's active list with an id (Law 1: at most one). -/
def State.regionById (s : State) (d : Desk) (id : Byte) : Option Region := (s.active d).find? fun r => r.id == id

/-- R99: one source coordinate from an origin, a scale and a local offset. -/
def mapOffset (origin : Nat) (z : Int) (a : Nat) : Nat :=
  if 0 ≤ z then origin + a * 2 ^ z.toNat else origin + a / 2 ^ (-z).toNat

/-- R132: a region whose input can be delivered to its source. -/
def State.routable (s : State) (r : Region) : Bool :=
  r.input && match r.source with
    | none => false
    | some p => (s.admittedImage p.slot p.screen).isSome

/-! ### Target and input region -/

/-- The region of the target, as it stands in the active list. -/
def State.targetRegion (s : State) : Option Region := s.pointer.target.bind fun t => s.regionById t.1 t.2

/-- The source part of the target when the target is routable (R132). -/
def State.routableTarget (s : State) : Option (Region × SourcePart) :=
  s.targetRegion.bind fun r => if s.routable r then r.source.map (r, ·) else none

/-- R132: the input region: the capture region while a capture is in force, and otherwise a routable target. -/
def State.inputRegion (s : State) : Option (Region × SourcePart) :=
  match s.pointer.capture with
  | some c => (s.regionById c.screen c.id).bind fun r => r.source.map (r, ·)
  | none => s.routableTarget

/-- R132: the input slot. -/
def State.inputSlot (s : State) : Option Slot := s.inputRegion.map fun q => q.2.slot

/-- R142: one absolute coordinate, of source position `u` on a screen `n` pixels long. -/
def absolute (u n : Nat) : Nat := (2 * (if n ≤ u then n - 1 else u) + 1) * 16384 / n

/-- R142: the absolute coordinates of the pointer in an input region. -/
def State.coordinates (s : State) (r : Region) (p : SourcePart) : Nat × Nat :=
  match s.entry p.slot p.screen with
  | none => (0, 0)
  | some e =>
    (absolute (mapOffset p.u0 p.z (s.pointer.px - r.x)) e.width,
      absolute (mapOffset p.v0 p.z (s.pointer.py - r.y)) e.height)

/-! ### Captures -/

/-- The pointer clamped into a rectangle clipped to a screen (R131). -/
def clampToRegion (d : Desk) (r : Region) (s : State) : State :=
  let p := s.pointer
  let e := s.screen d
  { s with pointer :=
      { p with px := clampNat r.x (min (r.x + r.w) e.width - 1) p.px, py := clampNat r.y (min (r.y + r.h) e.height - 1) p.py } }

/-- Whether a rectangle clipped to a screen holds a pixel (R135). -/
def State.meetsScreen (s : State) (d : Desk) (r : Region) : Bool :=
  r.x < (s.screen d).width && r.y < (s.screen d).height && (0 < r.w && 0 < r.h)

/-- R135: the region with which a capture is kept: in the active list with its id, routable, of the same slot and source screen,
and not empty on its screen. -/
def State.keptRegion (s : State) (c : Capture) : Option Region :=
  (s.regionById c.screen c.id).filter fun r =>
    s.routable r && s.meetsScreen c.screen r &&
      match r.source with
      | none => false
      | some p => p.slot == c.slot && p.screen == c.srcScreen

/-- Both residues 0. -/
def clearResidues (s : State) : State := { s with pointer := { s.pointer with residueX := 0, residueY := 0 } }

/-- R135: a capture breaks. Its slot, if LIVE or STALE, is given a buttons-up entry where it last saw the pointer; the held buttons
join the swallowed set. -/
def breakCapture (c : Capture) (s : State) : State :=
  let s := if s.heard c.slot then givePointer c.slot c.srcScreen c.ax c.ay 0 0 s else s
  let s := { s with pointer :=
    { s.pointer with swallowed := s.pointer.swallowed ||| s.pointer.buttons, capture := none } }
  bump .psCaptureBroken (clearResidues s)

/-- A capture breaks, if one is in force. -/
def breakAnyCapture (s : State) : State :=
  match s.pointer.capture with
  | none => s
  | some c => breakCapture c s

/-- R136 step 1: a capture in force is kept, with the pointer clamped into its rectangle, or it breaks. -/
def testCapture (s : State) : State :=
  match s.pointer.capture with
  | none => s
  | some c =>
    match s.keptRegion c with
    | some r => clampToRegion c.screen r s
    | none => breakCapture c s

/-! ### Re-evaluation (R136) -/

/-- R136 step 2: the target is found afresh (R132). -/
def retarget (s : State) : State :=
  { s with pointer :=
      { s.pointer with target :=
          s.pointer.screen.bind fun d => (s.regionAt d s.pointer.px s.pointer.py).map fun r => (d, r.id) } }

/-- R136 step 3: the POINTER and CAPTURE flags of all eight slots (R138). -/
def setSteeringFlags (s : State) : State :=
  let target := s.routableTarget.map fun q => q.2.slot
  let capture := s.pointer.capture.map fun c => c.slot
  allSlots.foldl
    (fun s i => setHalfFlag i .capture (capture == some i) (setHalfFlag i .pointer (target == some i) s)) s

/-- R136 step 4: the input slot, if it is not the focus, is asked to be made the focus. -/
def askFocus (s : State) : State :=
  match s.inputSlot with
  | none => s
  | some i => if s.keyboard.focus = some i then s else focusRequest i s

/-- R136: re-evaluation. -/
def reevaluate (s : State) : State := askFocus (setSteeringFlags (retarget (testCapture s)))

/-! ### Placing the pointer -/

/-- The lowest-numbered enabled screen (R139, R140). -/
def State.lowestEnabled (s : State) : Option Desk := allDesks4.find? fun d => (s.screen d).enabled

/-- R139, R140: the pointer at the centre of the lowest-numbered enabled screen, or absent when none is enabled; residues 0. -/
def placePointer (s : State) : State :=
  let p := s.pointer
  clearResidues
    (match s.lowestEnabled with
    | some d => { s with pointer := { p with screen := some d, px := (s.screen d).width / 2, py := (s.screen d).height / 2 } }
    | none => { s with pointer := { p with screen := none, px := 0, py := 0 } })

/-- R139: the pointer is placed and the target re-evaluated. -/
def placeAndReevaluate (s : State) : State := reevaluate (placePointer s)

/-- R140: the pointer screen has been disabled: a capture breaks, the pointer moves or becomes absent, the target is
re-evaluated. -/
def leaveDisabled (s : State) : State := placeAndReevaluate (breakAnyCapture s)

/-- The pointer clamped onto a screen (R129, R130, R141). -/
def clampToScreen (d : Desk) (s : State) : State :=
  let p := s.pointer
  let e := s.screen d
  { s with pointer := { p with px := min p.px (e.width - 1), py := min p.py (e.height - 1) } }

/-- R141: the pointer screen has a new size. -/
def fitPointer (d : Desk) (s : State) : State :=
  if s.pointer.screen = some d then reevaluate (clampToScreen d s) else s

/-! ### What the Source Manager reports (R55) -/

/-- Whether the target or the capture belongs to a slot (R55, R136). -/
def State.steersTo (s : State) (i : Slot) : Bool :=
  (s.pointer.capture.map fun c => c.slot) == some i ||
    ((s.targetRegion.bind fun r => r.source).map fun p => p.slot) == some i

/-- R55: a change reported in a slot re-evaluates the pointer if the target or the capture belongs to the slot. -/
def reportChange (i : Slot) (s : State) : State := if s.steersTo i then reevaluate s else s

end Sys2Proof.Machine
end

