-- ==== Sys2Proof/Machine/Views.lean ====
section
/-!
DEFINITION. The View Controller: swaps and their effect (R114 to R118), preset loads (R120), fences (R121, R122) and vertical
starts (R90, R115).
-/

namespace Sys2Proof.Machine

/-! ### Fences -/

/-- R122: the oldest due fence is answered OK, if there is one and the response queue has a free place. The answer goes to the origin of the
fence's own request, and not to the controller that spoke last (DEDUCED 37: R122 against a clause of R166). -/
def answerOldestDue (s : State) : State :=
  match s.fences.find? fun f => f.awaited == 0 with
  | none => s
  | some f =>
    if s.responseRoom then pushResponse ⟨f.tag, .ok, [], f.origin, false⟩ { s with fences := s.fences.erase f } else s

/-- R122: the due fences are answered, oldest first, while the response queue has room. -/
def answerDueFences (s : State) : State := times answerOldestDue s.fences.length s

/-- R122: a screen is removed from the awaited set of every fence. -/
def releaseScreen (d : Desk) (s : State) : State :=
  { s with fences := s.fences.map fun f => { f with awaited := f.awaited &&& ~~~ BitVec.twoPow 4 d.val } }

/-! ### Swaps -/

/-- R118: some active list holds a region whose source part names the slot. -/
def State.shows (s : State) (i : Slot) : Bool :=
  allDesks4.any fun d => (s.active d).any fun r => r.source.any fun p => p.slot == i

/-- R118: the VIEWING flag of every slot recomputed. -/
def recomputeViewing (s : State) : State := allSlots.foldl (fun s i => setHalfFlag i .viewing (s.shows i) s) s

/-- R117 steps 1 to 3, less the answers: the lists, the VIEWING flags and the fences' awaited sets. -/
def swapIn (d : Desk) (s : State) : State :=
  releaseScreen d (recomputeViewing (setSwapWaits d false (setActive d (s.pendingList d) s)))

/-- R117 step 4. -/
def swapNotice (s : State) : State := bump .vcSwaps (setFlag .swapDone s)

/-- R117 step 5: re-evaluation if the pointer is on the screen. -/
def reevaluateOn (d : Desk) (s : State) : State := if s.pointer.screen = some d then reevaluate s else s

/-- R117: a swap takes effect on a screen. Within a management request the fences made due are answered after the request's own
response (R122), so `answerNow` is false there. -/
def swapEffect (answerNow : Bool) (d : Desk) (s : State) : State :=
  reevaluateOn d (swapNotice (if answerNow then answerDueFences (swapIn d s) else swapIn d s))

/-- R114: one screen named by a SWAP. -/
def requestSwapOn (answerNow : Bool) (d : Desk) (s : State) : State :=
  if (s.screen d).enabled then
    if s.swapWaits d then bump .vcSwapsCoalesced s else setSwapWaits d true s
  else swapEffect answerNow d s

/-- R114: a swap requested on the screens of a mask, in index order. -/
def requestSwap (answerNow : Bool) (mask : BitVec 4) (s : State) : State :=
  allDesks4.foldl (fun s d => if mask.getLsbD d.val then requestSwapOn answerNow d s else s) s

/-- R115: a vertical start of a screen takes its pending swap. -/
def takeSwap (answerNow : Bool) (d : Desk) (s : State) : State := if s.swapWaits d then swapEffect answerNow d s else s

/-- R90, R91: a picture of a screen begins now. -/
def beginPicture (d : Desk) (s : State) : State := setScreen d { s.screen d with picture := some s.now } s

/-- R120 steps 1 and 2: the preset's lists become the pending lists and a swap is requested on all four screens. -/
def loadPreset (answerNow : Bool) (lists : Vector (List Region) 4) (s : State) : State :=
  requestSwap answerNow 0b1111 { s with pendingLists := lists }

end Sys2Proof.Machine
end

