-- ==== Sys2Proof/Machine/Desk.lean ====
section
/-!
DEFINITION. The desk: vertical starts (R90, R115), desk pointer reports (R127 to R134, R142 to R144), desk keyboard reports and hotkeys
(R147 to R149, R157 to R161) and lamp messages (R163), and the meanings of their commands.
-/

namespace Sys2Proof.Machine

/-! ### Motion (R128 to R131) -/

/-- The gain of a speed level, in sixteenths (R128). -/
def gain (level : Nat) : Nat := 4 + 2 * level

/-- R128: the move and the new residue of one axis: division by 16 truncated toward zero. -/
def moveAxis (level : Nat) (residue delta : Int) : Int × Int :=
  let acc := residue + delta * gain level
  let move := acc.tdiv 16
  (move, acc - move * 16)

/-- A link that can be crossed: its neighbour is present and enabled (R126, R129). -/
def State.openLink (s : State) (l : LayoutLink) : Option (Desk × Int) :=
  l.neighbour.bind fun n => if (s.screen n).enabled then some (n, l.offset) else none

/-- A coordinate clamped to 0..n - 1 (R129, R130). -/
def onScreen (n : Nat) (x : Int) : Nat := (clampInt 0 ((n : Int) - 1) x).toNat

/-- The pointer brought to a screen by a crossing; both residues become 0, and a move from one screen to another is counted
(R128, R130, R145). -/
def crossTo (old new : Desk) (px py : Nat) (s : State) : State :=
  let s := clearResidues { s with pointer := { s.pointer with screen := some new, px := px, py := py } }
  if old = new then s else bump .psCrossings s

/-- R129: the x move on screen `d`. After a crossing y is clamped to the new screen. -/
def moveX (d : Desk) (move : Int) (s : State) : State :=
  let p := s.pointer
  let width := (s.screen d).width
  let x : Int := (p.px : Int) + move
  let link := if x < 0 then s.openLink (s.layout.get d).left else s.openLink (s.layout.get d).right
  if 0 ≤ x ∧ x < width then { s with pointer := { p with px := x.toNat } }
  else match link with
    | none => { s with pointer := { p with px := onScreen width x } }
    | some (n, off) =>
      let e := s.screen n
      let x' := if x < 0 then x + e.width else x - width
      crossTo d n (onScreen e.width x') (onScreen e.height ((p.py : Int) + off)) s

/-- R130: the y move on the screen the pointer holds. -/
def moveY (c : Desk) (move : Int) (s : State) : State :=
  let p := s.pointer
  let height := (s.screen c).height
  let y : Int := (p.py : Int) + move
  let link := if y < 0 then s.openLink (s.layout.get c).top else s.openLink (s.layout.get c).bottom
  if 0 ≤ y ∧ y < height then { s with pointer := { p with py := y.toNat } }
  else match link with
    | none => { s with pointer := { p with py := onScreen height y } }
    | some (n, off) =>
      let e := s.screen n
      let y' := if y < 0 then y + e.height else y - height
      crossTo c n (onScreen e.width ((p.px : Int) + off)) (onScreen e.height y') s

/-- R129, R130: the motion of a report while no capture is in force, with the final clamp into the screen then held. -/
def moveFree (d : Desk) (mx my : Int) (s : State) : State :=
  let s := moveX d mx s
  let s := moveY (s.pointer.screen.getD d) my s
  clampToScreen (s.pointer.screen.getD d) s

/-- R131: the motion of a report during a capture: both moves on the pointer screen, clamped into the capture rectangle. -/
def moveCaptured (d : Desk) (r : Region) (mx my : Int) (s : State) : State :=
  let p := s.pointer
  clampToRegion d r
    { s with pointer := { p with px := ((p.px : Int) + mx).toNat, py := ((p.py : Int) + my).toNat } }

/-- R144 step 2: the motion of a report, computed (R128) and applied, while the pointer is present. -/
def applyMotion (dx dy : Int) (s : State) : State :=
  match s.pointer.screen with
  | none => s
  | some d =>
    let p := s.pointer
    let mx := moveAxis s.node.speed p.residueX dx
    let my := moveAxis s.node.speed p.residueY dy
    let s := { s with pointer := { p with residueX := mx.2, residueY := my.2 } }
    match p.capture with
    | none => moveFree d mx.1 my.1 s
    | some c =>
      match s.regionById c.screen c.id with
      | none => s
      | some r => moveCaptured d r mx.1 my.1 s

/-! ### Buttons (R133) -/

/-- The buttons that a source sees: held and not swallowed (R133). -/
def forwardedButtons (p : Steering) : BitVec 5 := p.buttons &&& ~~~ p.swallowed

/-- How many buttons a set holds. -/
def buttonCount (b : BitVec 5) : Nat := [0, 1, 2, 3, 4].countP fun k => b.getLsbD k

/-- R133, R138: a capture starts on the target, and its slot's CAPTURE flag is set at once (DEDUCED 30). -/
def startCapture (d : Desk) (q : Region × SourcePart) (s : State) : State :=
  let c : Capture := ⟨d, q.1.id, q.2.slot, q.2.screen, 0, 0⟩
  bump .psCaptures (setHalfFlag q.2.slot .capture true
    (clearResidues { s with pointer := { s.pointer with capture := some c } }))

/-- R133: the newly pressed buttons start a capture, join the one in force, or are swallowed. -/
def pressButtons (pressed : BitVec 5) (s : State) : State :=
  if pressed = 0 then s
  else match s.pointer.capture with
    | some _ => s
    | none =>
      match s.pointer.screen, s.routableTarget with
      | some d, some q =>
        if s.pointer.buttons = 0 then startCapture d q s
        else bumpBy .psSwallowed (buttonCount pressed)
          { s with pointer := { s.pointer with swallowed := s.pointer.swallowed ||| pressed } }
      | _, _ => bumpBy .psSwallowed (buttonCount pressed)
          { s with pointer := { s.pointer with swallowed := s.pointer.swallowed ||| pressed } }

/-- R133, R144 step 4: the buttons of a report handled. -/
def handleButtons (b : BitVec 5) (s : State) : State :=
  let old := s.pointer.buttons
  let s := pressButtons (b &&& ~~~ old) s
  { s with pointer := { s.pointer with swallowed := s.pointer.swallowed &&& ~~~ (old &&& ~~~ b), buttons := b } }

/-! ### Reports to sources (R142, R143) -/

/-- The coordinates of an entry recorded in the capture in force (R143). -/
def recordCoordinates (ax ay : Nat) (s : State) : State :=
  { s with pointer := { s.pointer with capture := s.pointer.capture.map fun c => { c with ax := ax, ay := ay } } }

/-- R143: whether a report requires a pointer entry, by the steering record before it and its wheel. -/
def needsEntry (before after : Steering) (wheel : Int) : Bool :=
  before.screen != after.screen || before.px != after.px || before.py != after.py ||
    forwardedButtons before != forwardedButtons after || wheel != 0

/-- R143: a pointer entry for the input slot, if there is an input region and the report requires one. -/
def reportPointer (before : Steering) (wheel : Int) (s : State) : State :=
  match s.inputRegion with
  | none => s
  | some (r, p) =>
    if needsEntry before s.pointer wheel then
      let q := s.coordinates r p
      recordCoordinates q.1 q.2 (givePointer p.slot p.screen q.1 q.2 (forwardedButtons s.pointer) wheel s)
    else s

/-- R134: a capture ends by release. -/
def endCapture (c : Capture) (s : State) : State :=
  let s := clearResidues { s with pointer := { s.pointer with capture := none } }
  reevaluate (setHalfFlag c.slot .capture false s)

/-- R144 step 6. -/
def endIfReleased (s : State) : State :=
  match s.pointer.capture with
  | none => s
  | some c => if s.pointer.buttons = 0 then endCapture c s else s

/-- R127: a value of a report, clamped. -/
def reportClamp (x : Int) : Int := clampInt (-127) 127 x

/-- R144: a desk pointer report. -/
def pointerReport (buttons : Byte) (dx dy wheel : Int) (s : State) : State :=
  let before := s.pointer
  let clamped := reportClamp dx != dx || reportClamp dy != dy || reportClamp wheel != wheel
  let s := bump .psReports (if clamped then bump .psClamped s else s)
  let s := reevaluate (applyMotion (reportClamp dx) (reportClamp dy) s)
  let s := handleButtons (buttons.setWidth 5) s
  endIfReleased (reportPointer before (reportClamp wheel) s)

/-! ### Keys (R147, R148) -/

/-- R147: a rollover report holds code 0x01. -/
def isRollover (l : List Byte) : Bool := l.contains 0x01

/-- R147: codes of empty positions and of modifiers are removed, and later copies of a code. -/
def normalise (l : List Byte) : List Byte :=
  (l.filter fun c => c != 0 && !(0xE0 ≤ c.toNat && c.toNat ≤ 0xE7)).foldl (fun seen c => if seen.contains c then seen else seen ++ [c]) []

/-- The keys in a report's list that are not in the desk key list (R148). -/
def newKeys (held report : List Byte) : List Byte := report.filter fun c => !held.contains c

/-- R148: the desk key list after a report: the keys still held in their old order, then the new ones. -/
def nextKeys (held report : List Byte) : List Byte := held.filter (report.contains ·) ++ newKeys held report

/-- The keyboard state changed. -/
def modKeyboard (f : Keyboard → Keyboard) (s : State) : State := { s with keyboard := f s.keyboard }

/-! ### Hotkeys (R157 to R161) -/

/-- R157: the entry a newly pressed key matches: the lowest-indexed valid one with the key and exactly the desk modifier set. -/
def matchHotkey (k : Keyboard) (c : Byte) : Option Hotkey :=
  k.hotkeys.toList.find? fun h => h.valid && h.key == c && h.modifiers == k.modifiers

/-- The slots a FOCUS_NEXT searches, in order (R159). -/
def searchOrder (focus : Option Slot) : List Slot :=
  match focus with
  | none => allSlots
  | some f => (allSlots.drop (f.val + 1)) ++ allSlots.take (f.val + 1)

/-- R159: FOCUS_NEXT. -/
def focusNext (s : State) : State :=
  match (searchOrder s.keyboard.focus).find? fun i => s.heard i && s.halfFlag i .viewing with
  | none => s
  | some i => setLock true (if s.keyboard.focus = some i then s else focusChange (some i) s)

/-- R160: FOCUS_LOCK. -/
def focusLock (s : State) : State :=
  if s.keyboard.lock then reevaluate (setLock false s)
  else if s.keyboard.focus.isSome then setLock true s else s

/-- R161: the settings of the screens named in a mask changed. -/
def toggleScreens (mask : Byte) (f : ScreenSettings → ScreenSettings) (s : State) : State :=
  allDesks4.foldl (fun s d => if mask.getLsbD d.val then setScreen d (f (s.screen d)) s else s) s

/-- R161: the speed level changed within 0..15. -/
def setSpeed (n : Nat) (s : State) : State := { s with node := { s.node with speed := n } }

/-- R158: the PRESET action loads a present preset, and is ignored for an absent one. -/
def presetAction (n : Nat) (s : State) : State :=
  match s.presets.get (Fin.ofNat 8 n) with
  | none => s
  | some lists => loadPreset true lists s

/-- R158 to R161: a hotkey's action, by its code (R18). -/
def takeAction (h : Hotkey) (s : State) : State :=
  match h.action.toNat with
  | 1 => presetAction h.argument.toNat s
  | 2 => focusNext s
  | 3 => focusLock s
  | 4 => toggleScreens h.argument (fun e => { e with identify := !e.identify }) s
  | 5 => toggleScreens h.argument (fun e => { e with blank := !e.blank }) s
  | 6 => setSpeed (min 15 (s.node.speed + 1)) s
  | 7 => setSpeed (s.node.speed - 1) s
  | _ => s

/-! ### A keyboard report (R149) -/

/-- A code joins the end of a list that does not hold it. -/
def joinKey (l : List Byte) (c : Byte) : List Byte := if l.contains c then l else l ++ [c]

/-- R149 step 1: one newly pressed key. -/
def takeKey (s : State) (c : Byte) : State :=
  match matchHotkey s.keyboard c with
  | some h =>
    let s := modKeyboard (fun k => { k with swallowed := joinKey k.swallowed c }) s
    takeAction h (bump .ksHotkeys (setFlag .hotkeyUsed s))
  | none =>
    if s.keyboard.focus.isSome && !s.keyboard.swallowed.contains c then
      modKeyboard (fun k => { k with forwarded := joinKey k.forwarded c }) s
    else s

/-- R149 step 2: the released keys leave the swallowed and the forwarded list. -/
def dropReleased (released : List Byte) (k : Keyboard) : Keyboard :=
  { k with
    swallowed := k.swallowed.filter fun c => !released.contains c
    forwarded := k.forwarded.filter fun c => !released.contains c }

/-- R149 step 3: the state report for the focus. -/
def stateReport (s : State) : State :=
  match s.keyboard.focus with
  | none => s
  | some i => giveKey i s.keyboard.modifiers s.keyboard.forwarded s

/-- R147 to R149: a desk keyboard report. -/
def keyboardReport (modifiers : Byte) (positions : List Byte) (s : State) : State :=
  if isRollover positions then bump .ksRollover s
  else
    let report := normalise positions
    let new := newKeys s.keyboard.keys report
    let released := s.keyboard.keys.filter fun c => !report.contains c
    let s := bump .ksReports
      (modKeyboard (fun k => { k with modifiers := modifiers, keys := nextKeys k.keys report }) s)
    let s := new.foldl takeKey s
    stateReport (modKeyboard (dropReleased released) s)

/-! ### Lamp messages (R163) -/

/-- R163: a lamp message begins when none is in progress and the lamp state differs from the last sent. -/
def beginLamps (s : State) : State :=
  if s.lampMessage = none ∧ s.lampSent ≠ some s.keyboard.lamps then
    bump .ksLampSends { s with lampMessage := some s.keyboard.lamps, lampSent := some s.keyboard.lamps }
  else s

/-! ### Meanings -/

/-- VERTICAL_START (R91, R115): the picture in progress of an enabled screen reaches its end and the next begins. -/
def execVerticalStart (d : Desk) (s : State) : Host.Outcome State Fault Refusal :=
  .next (whenRunning (fun s => match (s.screen d).enabled, (s.screen d).picture with
    | true, some t => takeSwap true d (beginPicture d (advanceTo (t + Config.picturePeriod (s.screen d).rate) s))
    | _, _ => s) s)

/-- DESK_POINTER_REPORT (R144). -/
def execDeskPointerReport (buttons : Byte) (dx dy wheel : Int) (s : State) : Host.Outcome State Fault Refusal :=
  .next (whenRunning (pointerReport buttons dx dy wheel) s)

/-- DESK_KEYBOARD_REPORT (R147 to R149). -/
def execDeskKeyboardReport (modifiers : Byte) (keys : Vector Byte 6) (s : State) : Host.Outcome State Fault Refusal :=
  .next (whenRunning (keyboardReport modifiers keys.toList) s)

/-- LAMP_MESSAGE_BEGIN (R163). -/
def execLampMessageBegin (s : State) : Host.Outcome State Fault Refusal := .next (whenRunning beginLamps s)

/-- LAMP_MESSAGE_COMPLETE (R163): the message completes, and the next begins if the lamp state then differs from the last sent. -/
def execLampMessageComplete (s : State) : Host.Outcome State Fault Refusal :=
  .next (whenRunning (onlyIf s.lampMessage.isSome (fun s => beginLamps { s with lampMessage := none })) s)

end Sys2Proof.Machine
end

