-- ==== Sys2Proof/Machine/Scanner.lean ====
section
/-!
DEFINITION. The Refresh Scanner: Refresh Request Lists, retirement and expiry (R75 to R81), and the scanner step (R83 to R86).
-/

namespace Sys2Proof.Machine

/-! ### Screens and stamps -/

/-- Columns of the tile grid (R57). -/
def Tracking.columns (t : Tracking) : Nat := t.width / 16

/-- Rows of the tile grid (R57). -/
def Tracking.rows (t : Tracking) : Nat := t.height / 16

/-- The number of tiles of the screen (R57). -/
def Tracking.tiles (t : Tracking) : Nat := t.columns * t.rows

/-- The stamp of a tile (R58). -/
def Tracking.stamp (t : Tracking) (i : Nat) : Option Frame := storeGet t.stamps i

/-- Whether an entry covers a tile (R75). -/
def RefreshEntry.covers (e : RefreshEntry) (i : Nat) : Bool := e.first ≤ i && i < e.first + e.count

/-- Whether some outstanding entry covers a tile (R75). -/
def Tracking.covered (t : Tracking) (i : Nat) : Bool := t.entries.any fun e => e.covers i

/-- A full-refresh entry of the screen (R69, R77). -/
def fullEntry (tiles remaining : Nat) (request : Option Frame) (creation : BitVec 32) : RefreshEntry :=
  ⟨0, tiles, request, remaining, false, creation⟩

/-! ### Retirement and expiry -/

/-- R79: whether a write over previous stamp `p` counts for an entry with request frame `r`. -/
def writeCounts (p r : Option Frame) : Bool :=
  match p, r with
  | none, _ => true
  | some p, some r => 1 ≤ (r - p).toNat && (r - p).toNat ≤ 32767
  | some _, none => false

/-- R79: one write of a tile, over its previous stamp, against the list: the covering entry's remaining count falls if the write
counts, and an entry that reaches 0 is removed. Also whether one retired. -/
def retire (i : Nat) (p : Option Frame) : List RefreshEntry → List RefreshEntry × Bool
  | [] => ([], false)
  | e :: t =>
    if e.covers i then
      if writeCounts p e.request then
        if e.remaining ≤ 1 then (t, true) else ({ e with remaining := e.remaining - 1 } :: t, false)
      else (e :: t, false)
    else
      let q := retire i p t
      (e :: q.1, q.2)

/-- R80: whether an entry has aged out against the current frame. -/
def RefreshEntry.expired (c : Frame) (e : RefreshEntry) : Bool :=
  match e.request with
  | none => false
  | some r => 8 ≤ (c - r).toNat

/-! ### The scanner step -/

/-- What a scanner step works on: the screen, the node's creation counter (R76), the open run as its lowest tile and its length
(R86), and what the step has counted (R87). -/
structure Scan where
  track : Tracking
  creation : BitVec 32
  run : Option (Nat × Nat)
  runs : Nat
  deferred : Nat
  ceilings : Nat
deriving DecidableEq, Repr

/-- R86: the open run, if any, closes: it becomes an entry if the list holds fewer than 4, and is discarded otherwise. -/
def closeRun (c : Frame) (x : Scan) : Scan :=
  match x.run with
  | none => x
  | some (lo, n) =>
    if x.track.entries.length < 4 then
      { x with
        track := { x.track with entries := x.track.entries ++ [⟨lo, n, some c, n, false, x.creation⟩] }
        creation := x.creation + 1
        run := none
        runs := x.runs + 1 }
    else { x with run := none, deferred := x.deferred + 1 }

/-- R85 step 1: a present stamp 30,000 frames old or older is set to that age. -/
def ceiling (c : Frame) (x : Scan) : Scan :=
  match x.track.stamp x.track.cursor with
  | none => x
  | some p =>
    if 30000 ≤ (c - p).toNat then
      { x with
        track := { x.track with stamps := storePut x.track.stamps x.track.cursor (c - 30000) }
        ceilings := x.ceilings + 1 }
    else x

/-- R85 step 2: whether the tile at the cursor qualifies. -/
def qualifies (c : Frame) (limit : Nat) (t : Tracking) : Bool :=
  !t.covered t.cursor &&
    match t.stamp t.cursor with
    | none => true
    | some p => limit ≤ (c - p).toNat

/-- Whether the cursor stands on the last tile in its direction of travel (R83). -/
def Tracking.atEnd (t : Tracking) : Bool :=
  match t.dir with
  | .up => t.cursor + 1 == t.tiles
  | .down => t.cursor == 0

/-- R83: the cursor and direction after an examination. -/
def moveCursor (t : Tracking) : Tracking :=
  match t.dir with
  | .up => if t.cursor + 1 = t.tiles then { t with cursor := t.cursor - 1, dir := .down } else { t with cursor := t.cursor + 1 }
  | .down => if t.cursor = 0 then { t with cursor := 1, dir := .up } else { t with cursor := t.cursor - 1 }

/-- R85 step 3, R86: the tile at the cursor joins the open run or begins one, or closes it. -/
def joinRun (c : Frame) (q : Bool) (x : Scan) : Scan :=
  if q then
    let i := x.track.cursor
    let r : Nat × Nat := match x.run with
      | none => (i, 1)
      | some (lo, n) => (min lo i, n + 1)
    let x' := { x with run := some r }
    if 16 ≤ r.2 || x.track.atEnd then closeRun c x' else x'
  else closeRun c x

/-- One examination (R85). -/
def examine (c : Frame) (limit : Nat) (x : Scan) : Scan :=
  let x := ceiling c x
  let x := joinRun c (qualifies c limit x.track) x
  { x with track := moveCursor x.track }

/-- A scanner step of `budget` examinations; a run that is open as the budget ends closes (R85, R86). -/
def scanStep (c : Frame) (limit budget : Nat) (t : Tracking) (creation : BitVec 32) : Scan :=
  closeRun c (times (examine c limit) budget ⟨t, creation, none, 0, 0, 0⟩)

/-! ### On the state -/

/-- R84: the effective age limit, a quarter of the configured one while Port A is DEGRADED. -/
def State.effectiveAgeLimit (s : State) : Nat :=
  match s.portA.quality with
  | .good => s.node.ageLimit
  | .degraded => s.node.ageLimit / 4

/-- The tracking record of an image slot in use, changed. -/
def modTrack (x : ImageIx) (f : Tracking → Tracking) (s : State) : State := setImage x ((s.image x).map f) s

/-- R80: expiry of a screen's entries against its current frame. -/
def expireEntries (x : ImageIx) (s : State) : State :=
  match s.image x with
  | none => s
  | some t =>
    match t.current with
    | none => s
    | some c =>
      bumpBy .rsExpired (t.entries.countP (RefreshEntry.expired c))
        (setImage x (some { t with entries := t.entries.filter fun e => !e.expired c }) s)

/-- R85: the scanner step of an advance by `d`. -/
def runScanner (x : ImageIx) (d : Nat) (s : State) : State :=
  match s.image x with
  | none => s
  | some t =>
    match t.current with
    | none => s
    | some c =>
      let r := scanStep c s.effectiveAgeLimit (64 * d) t s.creation
      bumpBy .rsRuns r.runs (bumpBy .rsDeferred r.deferred (bumpBy .rsCeiling r.ceilings
        { setImage x (some r.track) s with creation := r.creation }))

/-- R77: the screen's list replaced by one full-refresh entry with a new creation order number (R76). -/
def replaceByFull (x : ImageIx) (request : Option Frame) (remaining : Nat) (s : State) : State :=
  { modTrack x (fun t => { t with entries := [fullEntry t.tiles remaining request s.creation] }) s with
    creation := s.creation + 1 }

end Sys2Proof.Machine
end

