-- ==== Sys2Proof/Machine/TileStore.lean ====
section
/-!
DEFINITION. The Tile Store: tracking records, the windows of serial comparison, tile writes, advance, torn frames and
resynchronization (R57 to R74).
-/

namespace Sys2Proof.Machine

/-- The windows of serial comparison (R59). -/
inductive Window where
  | same
  | newer (d : Nat)
  | late
  | jump
deriving DecidableEq, Repr

/-- R59: the window of frame number `f` against current frame `c`. -/
def window (c f : Frame) : Window :=
  let d := (f - c).toNat
  if d = 0 then .same else if d ≤ 64 then .newer d else if 65472 ≤ d then .late else .jump

/-- R57: a tracking record as a fresh start leaves it (R51), with its one full-refresh entry. -/
def freshTracking (owner : Slot) (screen : SrcScreen) (width height : Nat) (creation : BitVec 32) : Tracking where
  owner := owner
  screen := screen
  width := width
  height := height
  current := none
  received := 0
  closed := false
  stamps := []
  entries := [fullEntry (width / 16 * (height / 16)) (width / 16 * (height / 16)) none creation]
  cursor := 0
  dir := .up

/-- R51: a screen started afresh in its image slot. -/
def freshStart (x : ImageIx) (owner : Slot) (screen : SrcScreen) (width height : Nat) (s : State) : State :=
  { setImage x (some (freshTracking owner screen width height s.creation)) s with creation := s.creation + 1 }

/-! ### Torn frames -/

/-- R68: a torn frame is counted and FRAME_TORN is set. -/
def tornFrame (s : State) : State := setFlag .frameTorn (bump .tsTorn s)

/-- Whether a full-refresh entry is in the list (R69). -/
def Tracking.hasFull (t : Tracking) : Bool := t.entries.any fun e => e.first == 0 && e.count == t.tiles

/-- R69: how many tiles have a stamp that is absent or differs from `r`. -/
def Tracking.notStamped (t : Tracking) (r : Frame) : Nat :=
  (List.range t.tiles).countP fun i => t.stamp i != some r

/-- R69: the torn repair of a screen, with request frame its current frame. -/
def tornRepair (x : ImageIx) (s : State) : State :=
  match s.image x with
  | none => s
  | some t =>
    match t.current with
    | none => s
    | some c =>
      if t.hasFull then s
      else if t.notStamped c = 0 then s
      else replaceByFull x (some c) (t.notStamped c) s

/-! ### The current frame -/

/-- R66: the current frame becomes present for the first time, and every entry without a request frame is given it (R78). -/
def firstPresence (x : ImageIx) (f : Frame) (s : State) : State :=
  modTrack x (fun t =>
    { t with current := some f, entries := t.entries.map fun e => { e with request := some (e.request.getD f) } }) s

/-- The received count and closed flag that the cell's own part leaves (R63, R65). -/
def setProgress (x : ImageIx) (received : Nat) (closed : Bool) (s : State) : State :=
  modTrack x (fun t => { t with received := received, closed := closed }) s

/-- R67 step 1: the torn frames that an advance by `d` leaves behind. -/
def tornBehind (t : Tracking) (d : Nat) : Nat := (if t.closed then 0 else 1) + (if 1 < d then 1 else 0)

/-- R67: an advance by `d` to frame `f`. -/
def advance (x : ImageIx) (d : Nat) (f : Frame) (s : State) : State :=
  match s.image x with
  | none => s
  | some t =>
    let n := tornBehind t d
    let s := times tornFrame n s
    let s := modTrack x (fun t => { t with current := some f, received := 0, closed := false }) s
    let s := expireEntries x s
    let s := if 0 < n then tornRepair x s else s
    runScanner x d s

/-- R70: resynchronization at frame `f`. -/
def resynchronize (x : ImageIx) (f : Frame) (s : State) : State :=
  match s.image x with
  | none => s
  | some t =>
    let s := modTrack x (fun t => { t with stamps := [] }) s
    let s := replaceByFull x (some f) t.tiles s
    let s := modTrack x (fun t =>
      { t with cursor := 0, dir := .up, current := some f, received := 0, closed := false }) s
    setFlag .frameTorn (bump .tsResync s)

/-! ### TILE -/

/-- The pixels a TILE writes (R64). -/
def pixelsOf : TileImage → TilePixels
  | .raw px => px
  | .fill c => Vector.replicate 256 c

/-- R64: a tile is written: its pixels, the retirement of the entry covering it (R79), its stamp. -/
def writeTile (x : ImageIx) (cell : TileCell) (s : State) : State :=
  match s.image x with
  | none => s
  | some t =>
    match t.current with
    | none => s
    | some c =>
      let i := cell.row.toNat * t.columns + cell.column.toNat
      let q := retire i (t.stamp i) t.entries
      let m := memWrite s.imageMem (tileAddress x cell.column.toNat cell.row.toNat) (pixelsOf cell.image)
      let s := { s with imageMem := m }
      let s := setImage x (some { t with entries := q.1, stamps := storePut t.stamps i c }) s
      let s := if q.2 then bump .rsRetired s else s
      bump .tsTiles s

/-- R63: a TILE of an admitted screen, within the grid. -/
def tileInGrid (x : ImageIx) (t : Tracking) (cell : TileCell) (s : State) : State :=
  match t.current with
  | none => writeTile x cell (setProgress x 1 false (firstPresence x cell.frame s))
  | some c =>
    match window c cell.frame with
    | .same => writeTile x cell (setProgress x (min 65535 (t.received + 1)) t.closed s)
    | .newer d => writeTile x cell (setProgress x 1 false (advance x d cell.frame s))
    | .late => bump .tsLate s
    | .jump => writeTile x cell (setProgress x 1 false (resynchronize x cell.frame s))

/-- The image slot and record of the admitted screen that a cell concerns (R60). -/
def State.admittedTrack (s : State) (i : Slot) (screen : Byte) : Option (ImageIx × Tracking) :=
  (screenOfByte screen).bind fun k => (s.admittedImage i k).bind fun x => (s.image x).map fun t => (x, t)

/-- R60, R61: the Tile Store's work for a TILE of a slot. -/
def storeTile (i : Slot) (cell : TileCell) (s : State) : State :=
  match s.admittedTrack i cell.screen with
  | none => bump .tsTileNotAdmitted s
  | some (x, t) =>
    if cell.column.toNat < t.columns ∧ cell.row.toNat < t.rows then tileInGrid x t cell s else bump .tsBadTile s

/-! ### FRAME_END -/

/-- R65: the verdict on the frame just closed; a torn one is repaired (R68, R69). -/
def judge (x : ImageIx) (complete : Bool) (s : State) : State :=
  if complete then bump .tsFramesComplete s else tornRepair x (tornFrame s)

/-- R65: a FRAME_END of an admitted screen. -/
def endFrame (x : ImageIx) (t : Tracking) (cell : FrameEndCell) (s : State) : State :=
  match t.current with
  | none => judge x (cell.count == 0) (setProgress x 0 true (firstPresence x cell.frame s))
  | some c =>
    match window c cell.frame with
    | .same =>
      if t.closed then bump .tsLate s
      else judge x (t.received == cell.count.toNat) (setProgress x t.received true s)
    | .newer d => judge x (cell.count == 0) (setProgress x 0 true (advance x d cell.frame s))
    | .late => bump .tsLate s
    | .jump => judge x (cell.count == 0) (setProgress x 0 true (resynchronize x cell.frame s))

/-- R60, R61: the Tile Store's work for a FRAME_END of a slot. -/
def storeFrameEnd (i : Slot) (cell : FrameEndCell) (s : State) : State :=
  match s.admittedTrack i cell.screen with
  | none => bump .tsEndNotAdmitted s
  | some (x, t) => endFrame x t cell s

end Sys2Proof.Machine
end

