-- ==== Sys2Proof/Machine/Operands.lean ====
section
/-!
DEFINITION. How a command's operand, a cell that ends on a port, reaches the node: when it can end there, what its end counts
(R6, R8 to R10), and the take, forward, both or drop decision (R21 to R23).

A row whose event is the end of a cell carries that cell. It can happen when the port is UP and has no cell in reception (the whole
cell arrives, start delimiter to end delimiter) or has exactly that cell's bytes in reception (its end delimiter arrives):
DESIGN CHOICE 6. Of a port's code groups before the end delimiter nothing else is read.
-/

namespace Sys2Proof.Machine

/-! ### The counters of a port (R13) -/

/-- The counter of the check a bad cell fails first (R6). -/
def badCounter : Port → RxCheck → Counter
  | .a, .code => .aRxBadCode | .a, .frame => .aRxBadFrame | .a, .length => .aRxBadLength | .a, .crc => .aRxBadCrc
  | .a, .address => .aRxBadAddress | .a, .kind => .aRxBadKind | .a, .size => .aRxBadSize
  | .b, .code => .bRxBadCode | .b, .frame => .bRxBadFrame | .b, .length => .bRxBadLength | .b, .crc => .bRxBadCrc
  | .b, .address => .bRxBadAddress | .b, .kind => .bRxBadKind | .b, .size => .bRxBadSize

def rxCellsCounter : Port → Counter
  | .a => .aRxCells
  | .b => .bRxCells

def rxCutCounter : Port → Counter
  | .a => .aRxCut
  | .b => .bRxCut

def lockLossesCounter : Port → Counter
  | .a => .aLockLosses
  | .b => .bLockLosses

def txCellsCounter : Port → Counter
  | .a => .aTxCells
  | .b => .bTxCells

def txAbortedCounter : Port → Counter
  | .a => .aTxAborted
  | .b => .bTxAborted

/-! ### Link quality (R9, R10) -/

/-- R10: the quality that a window's bad count gives, by the thresholds as they stand. -/
def nextQuality (high low bad : Nat) (q : Quality) : Quality :=
  if high ≤ bad then .degraded else if bad ≤ low then .good else q

/-- R10: the end of a quality window. -/
def endWindow (p : Port) (s : State) : State :=
  let x := s.port p
  let q := nextQuality s.node.qualityHigh s.node.qualityLow x.windowBad x.quality
  let s := setPort p { x with quality := q, windowCount := 0, windowBad := 0 } s
  if x.quality = .good ∧ q = .degraded then setFlag (degradedFlag p) s else s

/-- The number of cells of a quality window (R9). -/
def windowLength : Nat := 4096

/-- R9: a received cell is counted in the quality window, and ends the window if it brings the count to 4096. -/
def countCell (p : Port) (bad : Bool) (s : State) : State :=
  let x := s.port p
  let s := setPort p
    { x with windowCount := x.windowCount + 1, windowBad := x.windowBad + (if bad then 1 else 0) } s
  if windowLength ≤ (s.port p).windowCount then endWindow p s else s

/-! ### The end of a cell -/

/-- Whether a cell can end on a port now: the port is UP, and has these bytes, or no cell, in reception. -/
def State.canEnd (s : State) (p : Port) (c : RxCell) : Bool :=
  (s.port p).link == .up && match (s.port p).rx with
    | none => true
    | some r => r == c

/-- The port's receive side after a cell has ended: what is in reception then, and an invalid run of 0 (R3, R5). -/
def afterCell (p : Port) (rx : Option RxCell) (s : State) : State :=
  setPort p { s.port p with rx := rx, invalidRun := 0 } s

/-- R8, R9: the end of a valid cell: RX_CELLS increases and the cell counts as good in the quality window. -/
def goodCell (p : Port) (s : State) : State := countCell p false (bump (rxCellsCounter p) (afterCell p none s))

/-- R6, R9: the end of a bad cell, counted in the counter of the first check it fails and as bad in the quality window. -/
def badCellEnds (p : Port) (k : RxCheck) (rx : Option RxCell) (s : State) : State :=
  countCell p true (bump (badCounter p k) (afterCell p rx s))

/-- A row that is the end of a valid cell on a port: the cell ends, and then it is handled. -/
def cellEvent (p : Port) (c : Cell) (handle : State → State) (s : State) : State :=
  onlyIf (s.canEnd p ⟨cellBytes c, false⟩) (fun s => handle (goodCell p s)) s

/-! ### Taking and forwarding (R21 to R23) -/

/-- R21: a source cell is taken if its origin is subscribed, forwarded if its origin is in the Forward Set, and dropped as
unwanted if neither. A TILE of an address that a write has just unsubscribed is such a cell: it is not counted in TS_TILE_NOT_ADMITTED
(DEDUCED 33: R19 against R71). -/
def sourceCell (c : Cell) (take : Slot → State → State) (s : State) : State :=
  let f := s.forwards c.origin
  let s := if f then offerB c s else s
  match s.slotOf c.origin with
  | some i => take i s
  | none => if f then s else bump .fwdUnwanted s

/-- R166: a taken request is dropped while a node reset is awaited, dropped and counted when the response queue is full, and
otherwise executed. -/
def manage (r : Request) (execute : State → State) (s : State) : State :=
  if s.resetPending then s
  else if s.responseRoom then execute { bump .mgRequests s with controller := r.origin }
  else bump .mgDropped s

/-- R23: a request the node takes; one sent to all desks is also offered to Port B. -/
def requestEvent (kind : Byte) (r : Request) (execute : State → State) (s : State) : State :=
  let c := requestCell s.node.address kind r
  cellEvent .a c (fun s => manage r execute (if r.toAll then offerB c s else s)) s

end Sys2Proof.Machine
end

