-- ==== Sys2Proof/Machine/Resets.lean ====
section
/-!
DEFINITION. The three kinds of reset (R4, R12, R36, R178 to R181) and the meanings of the reset commands.
-/

namespace Sys2Proof.Machine

/-- The bits of the reset cause record (R18). -/
def causeResetLine : BitVec 4 := 0b0010
def causeNodeReset : BitVec 4 := 0b0100
def causeStrapDefaulted : BitVec 4 := 0b1000

/-- R178: the reset cause record at the release of the reset line. -/
def releaseCause (straps : BitVec 12) (c : BitVec 4) : BitVec 4 :=
  if strapsDefault straps then c ||| causeResetLine ||| causeStrapDefaulted
  else (c ||| causeResetLine) &&& ~~~ causeStrapDefaulted

/-- What outlives every reset but power-on: the clock, the holdoff record (R33), the pixels in the image memory, which nothing
shows (R48), and the model's own queue and free values. -/
def keepAcross (old new : State) : State :=
  { new with
    lastEventBegan := old.lastEventBegan
    imageMem := old.imageMem
    now := old.now
    freeCount := old.freeCount
    pending := old.pending }

/-- A cell in flight across a node reset completes (R12); the refresh entry it was built from exists no more (R35, R48). -/
def acrossReset (f : InFlight) : InFlight :=
  match f.source with
  | .refresh _ _ => { f with source := .forwarded }
  | .forwarded | .hidEntry | .response _ | .event | .deskStatus _ => f

/-- R4: a port across a node reset: its window counts begin again, and the rest stands as it is. -/
def portAcrossReset (x : PortState) : PortState :=
  { x with windowCount := 0, windowBad := 0, tx := x.tx.map acrossReset }

/-- R180: a node reset takes effect. -/
def nodeResetEffect (s : State) : State :=
  { keepAcross s (State.afterReset s.node.address (s.cause ||| causeNodeReset)) with
    portA := portAcrossReset s.portA
    portB := portAcrossReset s.portB
    lastServed := s.lastServed
    resetLine := s.resetLine }

/-- R179: the node after the release of the reset line. -/
def released (straps : BitVec 12) (s : State) : State :=
  keepAcross s (State.afterReset (strapAddress straps) (releaseCause straps s.cause))

/-- R4, R12, R36, R179: the reset line is asserted: both ports DOWN, cells in flight cut off uncounted, every class of the arbiter
empty, an awaited node reset discarded. The other blocks take their values at the release. -/
def asserted (s : State) : State :=
  { s with
    resetLine := true
    portA := PortState.reset
    portB := PortState.reset
    portBQueue := []
    uplinkQueue := []
    hidQueue := []
    responses := []
    eventPending := false
    images := Vector.replicate 16 none
    sources := allSlots.foldl (fun v (i : Slot) => v.set i { v.get i with due := false } i.isLt) s.sources
    lastServed := .forwarded
    resetPending := false }

/-! ### Meanings -/

/-- POWER_ON (R178, R179). It also ends an assertion of the reset line (DESIGN CHOICE 36). -/
def execPowerOn (straps : BitVec 12) (s : State) : Host.Outcome State Fault Refusal :=
  .next { State.poweredOn straps with pending := s.pending }

/-- RESET_LINE_ASSERT (R4, R179). -/
def execResetLineAssert (s : State) : Host.Outcome State Fault Refusal := .next (asserted s)

/-- RESET_LINE_RELEASE (R178, R179): only while the line is asserted. -/
def execResetLineRelease (straps : BitVec 12) (s : State) : Host.Outcome State Fault Refusal :=
  .next (if s.resetLine then released straps s else s)

end Sys2Proof.Machine
end

