-- ==== Sys2Proof/Machine/SourceManager.lean ====
section
/-!
DEFINITION. The Source Manager's shared operations: acceptance (R39), SRC_STATUS (R41 to R44), admission (R48 to R51), loss and
teardown (R53, R54), and the timers (R40, R47).
-/

namespace Sys2Proof.Machine

/-! ### Hearing a source -/

/-- R39: a cell is accepted for a slot that is LIVE or STALE: the silence timer restarts, and a STALE slot becomes LIVE. -/
def accept (i : Slot) (s : State) : State :=
  if s.heard i then
    setSrc i { s.src i with state := .live, lastAccepted := some s.now, silenceTimer := some s.now } s
  else s

/-- R39, R55: a cell of a slot is taken: accepted, handled, and the return of a STALE slot to LIVE reported. -/
def takeFor (i : Slot) (handle : State → State) (s : State) : State :=
  let returns := (s.src i).state == .stale
  let s := handle (accept i s)
  if returns then reportChange i s else s

/-- R52: a CURSOR of a slot. -/
def storeCursor (i : Slot) (k : CursorCell) (s : State) : State :=
  if s.heard i then
    if 31 < k.hotX.toNat ∨ 31 < k.hotY.toNat then bump .srcBadCursor s
    else
      setSrc i { s.src i with
        cursor := some ⟨k.hidden != 0, k.hotX.toNat, k.hotY.toNat, k.colourA, k.colourB, k.image⟩ } s
  else bump .srcNotLive s

/-! ### Admission (R48 to R51) -/

/-- R48: an image slot is freed, and with it its record, stamps, scan state and list. -/
def freeImage (x : ImageIx) (s : State) : State := setImage x none s

/-- The lowest-numbered free image slot (R48). -/
def State.lowestFree (s : State) : Option ImageIx := allImages.find? fun x => (s.image x).isNone

/-- The image slot an entry holds is freed, if it holds one. -/
def freeOf (e : Option ScreenEntry) (s : State) : State :=
  match e.bind ScreenEntry.admittedIn with
  | none => s
  | some x => freeImage x s

/-- R49: whether a declared size is one a screen can have. -/
def goodSize (width height : Nat) : Bool :=
  width % 16 == 0 && (256 ≤ width && width ≤ 3840) && (height % 16 == 0 && (256 ≤ height && height ≤ 2160))

/-- R49: the first pass of admission at one screen index. -/
def admitFirst (i : Slot) (x : SrcStatusCell) (k : SrcScreen) (s : State) : State :=
  let e := s.entry i k
  let width := (x.sizes.get k).width.toNat
  let height := (x.sizes.get k).height.toNat
  if x.screenCount.toNat ≤ k.val then setEntry i k none (freeOf e s)
  else if goodSize width height then
    match e.bind fun e => e.admittedIn.map fun m => (e, m) with
    | some (e, m) =>
      if e.width = width ∧ e.height = height then s
      else
        let s := setEntry i k (some ⟨width, height, .admitted m⟩) s
        bump .srcGeometry (setFlag .geometryChanged (freshStart m i k width height s))
    | none => setEntry i k (some ⟨width, height, .notAdmitted⟩) s
  else bump .srcUnusable (setEntry i k (some ⟨width, height, .unusable⟩) (freeOf e s))

/-- Whether the screen is a candidate: present and NOT_ADMITTED (R49, R50). -/
def State.candidate (s : State) (i : Slot) (k : SrcScreen) : Bool :=
  (s.entry i k).any fun e => e.admission == .notAdmitted

/-- R50: the second pass of admission at one screen index. -/
def admitSecond (i : Slot) (k : SrcScreen) (s : State) : State :=
  match s.entry i k with
  | none => s
  | some e =>
    if e.admission = .notAdmitted then
      match s.lowestFree with
      | none => s
      | some m => freshStart m i k e.width e.height (setEntry i k (some { e with admission := .admitted m }) s)
    else s

/-- R49, R50: admission over the four screen entries. -/
def runAdmission (i : Slot) (x : SrcStatusCell) (s : State) : State :=
  let s := allSrcScreens.foldl (fun s k => admitFirst i x k s) s
  let s := allSrcScreens.foldl (fun s k => admitSecond i k s) s
  if allSrcScreens.any (s.candidate i) then bump .srcAdmitFull (setFlag .admitFull s) else s

/-! ### SRC_STATUS (R41 to R44) -/

/-- R42: a slot that joins: LIVE, its timers started, due, SOURCE_JOINED. The joining SRC_STATUS is the slot's last accepted cell
(DEDUCED 7: the silence timer measures from it). -/
def join (i : Slot) (s : State) : State :=
  let s := setSrc i { s.src i with
    state := .live, lastAccepted := some s.now, silenceTimer := some s.now, statusTimer := some s.now, due := true } s
  bump .srcJoined (setFlag .sourceJoined s)

/-- R42: the move of a slot at a well-formed SRC_STATUS. -/
def statusMove (i : Slot) (s : State) : State :=
  match (s.src i).state with
  | .absent => s
  | .waiting | .lost => join i s
  | .live | .stale => accept i s

/-- R43 step 1: the lamp set is stored; the desk lamps follow the focus's (R162). -/
def storeLamps (i : Slot) (lamps : BitVec 5) (s : State) : State :=
  let s := setSrc i { s.src i with lamps := lamps } s
  if s.keyboard.focus = some i then { s with keyboard := { s.keyboard with lamps := lamps } } else s

/-- R44: the source half compared and stored. -/
def storeHalf (i : Slot) (half : Vector Word16 8) (s : State) : State :=
  let x := s.src i
  if x.half = some half then s
  else
    let s := if x.changed then bump .srcHalfOverrun s else s
    setSrc i { x with half := some half, changed := true, overrun := x.overrun || x.changed } s

/-- What a change of a screen's admission is judged by: its image slot and size while ADMITTED (R55). -/
def State.admittedView (s : State) (i : Slot) : List (Option (ImageIx × Nat × Nat)) :=
  allSrcScreens.map fun k => (s.entry i k).bind fun e => e.admittedIn.map fun x => (x, e.width, e.height)

/-- R43: the contents of a well-formed SRC_STATUS, after the move of R42. -/
def statusContents (i : Slot) (x : SrcStatusCell) (s : State) : State :=
  let s := storeHalf i x.half (storeLamps i (x.lamps.setWidth 5) s)
  let s := setSrc i { s.src i with screenCount := x.screenCount.toNat } s
  runAdmission i x s

/-- R41: a SRC_STATUS is malformed when its screen count is 0 or above 4. -/
def statusMalformed (x : SrcStatusCell) : Bool := x.screenCount == 0 || 4 < x.screenCount.toNat

/-- R39, R41 to R43, R55: a SRC_STATUS of a slot. -/
def takeStatus (i : Slot) (x : SrcStatusCell) (s : State) : State :=
  if statusMalformed x then takeFor i (bump .srcBadStatus) s
  else
    let before := ((s.src i).state, s.admittedView i)
    let s := statusContents i x (statusMove i s)
    if before = ((s.src i).state, s.admittedView i) then s else reportChange i s

/-! ### Loss and teardown (R53, R54) -/

/-- R53 step 1. -/
def silence (i : Slot) (s : State) : State :=
  setSrc i { s.src i with state := .lost, silenceTimer := none, statusTimer := none, due := false } s

/-- R53 step 2: every image slot held by a screen of the slot is freed. -/
def freeImages (i : Slot) (s : State) : State := allSrcScreens.foldl (fun s k => freeOf (s.entry i k) s) s

/-- R53 step 3. -/
def dropCursor (i : Slot) (s : State) : State := setSrc i { s.src i with cursor := none } s

/-- R53 step 5: a capture in force on a region of the slot breaks. -/
def breakCaptureOf (i : Slot) (s : State) : State :=
  match s.pointer.capture with
  | none => s
  | some c => if c.slot = i then breakCapture c s else s

/-- R53 step 7. -/
def clearScreens (i : Slot) (s : State) : State := setSrc i { s.src i with screens := Vector.replicate 4 none } s

/-- Steps 1 to 7 of R53, each after the ones before it. -/
def giveUp (i : Slot) (s : State) : State :=
  clearScreens i (endFocus i (breakCaptureOf i (purgeHid i (dropCursor i (freeImages i (silence i s))))))

/-- Whether the report of a slot's loss or teardown re-evaluates the pointer (R55, R136): the target or the capture belongs to the slot, or
the slot is the focus, whose end clears the focus lock (R154), so that another slot's routable region may take it within the event (R183).
That it is judged as the event begins, and that the lock's clearing re-evaluates with the report, is DEDUCED 8. -/
def State.reevaluatesFor (s : State) (i : Slot) : Bool := s.steersTo i || s.keyboard.focus == some i

/-- R53: a slot goes LOST, and the report follows. -/
def loseSource (i : Slot) (s : State) : State :=
  let again := s.reevaluatesFor i
  let s := bump .srcLost (setFlag .sourceLost (giveUp i s))
  if again then reevaluate s else s

/-- R54: a slot is torn down and left with the entry given: WAITING for an address, ABSENT without one. The report follows as at
a loss, whatever the slot's state was (R136). -/
def tearDown (i : Slot) (new : Option Addr) (s : State) : State :=
  let again := s.reevaluatesFor i
  let s := giveUp i s
  let s := setSrc i { s.src i with
    addr := new, state := if new.isSome then .waiting else .absent
    half := none, changed := false, overrun := false, lamps := 0, screenCount := 0, lastAccepted := none } s
  if again then reevaluate s else s

/-- R54: a write of a slot's Subscription Table entry. -/
def subscribe (i : Slot) (new : Option Addr) (s : State) : State :=
  let x := s.src i
  if x.addr = new then s
  else match x.addr with
    | none => setSrc i { x with addr := new, state := .waiting } s
    | some _ => tearDown i new s

/-! ### Timers (R40, R47) -/

/-- R40: the 300 ms expiry of a LIVE slot. -/
def goStale (i : Slot) (since : Nat) (s : State) : State :=
  let s := advanceTo (since + Config.staleAfter) s
  let s := setSrc i { s.src i with state := .stale } s
  reportChange i (bump .srcStale (setFlag .sourceStale s))

/-- R40: the 1000 ms expiry of a STALE slot. -/
def goLost (i : Slot) (since : Nat) (s : State) : State := loseSource i (advanceTo (since + Config.lostAfter) s)

/-- R47: the status period of a slot expires and begins again. -/
def statusExpiry (i : Slot) (since : Nat) (s : State) : State :=
  let s := advanceTo (since + Config.statusPeriod) s
  makeDue i (setSrc i { s.src i with statusTimer := some (since + Config.statusPeriod) } s)

end Sys2Proof.Machine
end

