-- ==== Sys2Proof/Machine/Tables.lean ====
section
/-!
DEFINITION. The management tables: the bytes of each entry as a GET answers it (R17, R18, R38, R123), the capacities and used counts
of DESCRIBE (R174), and the checks, clamps and effects of each PUT (R112, R113, R156, R169 to R173).
-/

namespace Sys2Proof.Machine

/-! ### Bytes of fields -/

/-- A field that is clear or set, or absent or present, in its one byte. The manual gives 0 for clear and 1 for set in some of these fields
only; that 1 stands for set in all of them is DESIGN CHOICE 31. -/
def boolByte (b : Bool) : Byte := if b then 1 else 0
def natByte (n : Nat) : Byte := BitVec.ofNat 8 n
def natWord (n : Nat) : List Byte := be16 (BitVec.ofNat 16 n)
def intByte (z : Int) : Byte := BitVec.ofInt 8 z
def intWord (z : Int) : List Byte := be16 (BitVec.ofInt 16 z)

/-- Six key-code positions, keys first and empties after (R16, R18). -/
def sixKeys (l : List Byte) : List Byte := (l ++ List.replicate 6 0).take 6

/-- A slot or screen byte, 255 for none (R18). -/
def orNone {n : Nat} (x : Option (Fin n)) : Byte :=
  match x with
  | none => 255
  | some i => natByte i.val

/-! ### Regions (R18) -/

/-- The 21 bytes of a region record. -/
def regionBytes (r : Region) : List Byte :=
  r.id :: (natWord r.x ++ natWord r.y ++ natWord r.w ++ natWord r.h ++
    (match r.source with
      | none => List.replicate 8 0
      | some p => 1 :: natByte p.slot.val :: natByte p.screen.val :: (natWord p.u0 ++ natWord p.v0 ++ [intByte p.z])) ++
    boolByte r.input :: colourBytes r.fill)

/-- A list in an answer: its record count and its records, top first. -/
def listBytes (l : List Region) : List Byte := natByte l.length :: l.flatMap regionBytes

/-! ### Reading entries -/

def nodeBytes (n : NodeTable) : List Byte :=
  addrBytes n.address ++ [boolByte n.shortLock, natByte n.qualityHigh, natByte n.qualityLow] ++ natWord n.ageLimit ++
    [natByte n.speed] ++ be16 n.enable ++ colourBytes n.background

def screenBytes (e : ScreenSettings) : List Byte :=
  [boolByte e.enabled] ++ natWord e.width ++ natWord e.height ++ [natByte e.rate, boolByte e.blank, boolByte e.identify]

def linkBytes (l : LayoutLink) : List Byte := orNone l.neighbour :: intWord l.offset

def layoutBytes (e : LayoutEntry) : List Byte := linkBytes e.right ++ linkBytes e.left ++ linkBytes e.top ++ linkBytes e.bottom

def hotkeyBytes (h : Hotkey) : List Byte := [boolByte h.valid, h.modifiers, h.key, h.action, h.argument]

/-- The source state codes (R18). -/
def SrcState.code : SrcState → Byte
  | .absent => 0 | .waiting => 1 | .live => 2 | .stale => 3 | .lost => 4

/-- The admission code and image slot byte (R18). -/
def admissionBytes : Admission → List Byte
  | .notAdmitted => [0, 255]
  | .admitted x => [1, natByte x.val]
  | .unusable => [2, 255]

/-- One screen of a SOURCE entry (R18); an absent one reads as NOT_ADMITTED with no size (R38). -/
def screenEntryBytes : Option ScreenEntry → List Byte
  | none => [0, 0, 0, 0, 0, 0, 255]
  | some e => 1 :: (natWord e.width ++ natWord e.height ++ admissionBytes e.admission)

def sourceBytes (x : SourceRecord) : List Byte :=
  addrBytes (x.addr.getD 0) ++ [x.state.code, boolByte x.half.isSome] ++
    (match x.half with
      | none => List.replicate 16 0
      | some h => h.toList.flatMap be16) ++
    [boolByte x.changed, boolByte x.overrun, x.lamps.setWidth 8, natByte x.screenCount] ++
    x.screens.toList.flatMap screenEntryBytes ++ [boolByte x.cursor.isSome]

/-- A target or capture in a STEERING entry: presence, screen, id. The manual states no screen and id for an absent one: free
bytes (DESIGN CHOICE 1). -/
def placeBytes (n : Nat) : Option (Desk × Byte) → List Byte
  | none => [0, Config.freeByte n, Config.freeByte (n + 1)]
  | some (d, id) => [1, natByte d.val, id]

/-- How many free bytes the reading of one STEERING entry takes. -/
def steeringFree : Nat := 4

def steeringBytes (p : Steering) (k : Keyboard) (free : Nat) : List Byte :=
  [orNone p.screen] ++ natWord p.px ++ natWord p.py ++ [p.buttons.setWidth 8, p.swallowed.setWidth 8] ++
    placeBytes free p.target ++ placeBytes (free + 2) (p.capture.map fun c => (c.screen, c.id)) ++
    [orNone k.focus, boolByte k.lock, k.modifiers] ++ sixKeys k.keys ++ sixKeys k.forwarded ++ sixKeys k.swallowed ++
    [k.lamps.setWidth 8]

/-- The list of preset entry 4n + d with its presence byte (R18, R119). -/
def presetBytes (s : State) (i : Nat) : List Byte :=
  match s.presets.get (Fin.ofNat 8 (i / 4)) with
  | none => [0]
  | some p => 1 :: listBytes (p.get (Fin.ofNat 4 (i % 4)))

/-- The bytes of entry `i` of a table, as it stands (R18). -/
def entryBytes (t : Table) (s : State) (i : Nat) : List Byte :=
  match t with
  | .node => nodeBytes s.node
  | .subscribe => addrBytes ((s.src (Fin.ofNat 8 i)).addr.getD 0)
  | .forward => addrBytes (s.forwardSet.get (Fin.ofNat 64 i))
  | .screen => screenBytes (s.screen (Fin.ofNat 4 i))
  | .layout => layoutBytes (s.layout.get (Fin.ofNat 4 i))
  | .regionPending => listBytes (s.pendingList (Fin.ofNat 4 i))
  | .regionActive => listBytes (s.active (Fin.ofNat 4 i))
  | .preset => presetBytes s i
  | .hotkey => hotkeyBytes (s.keyboard.hotkeys.get (Fin.ofNat 16 i))
  | .deskHalf => (s.src (Fin.ofNat 8 i)).deskHalf.toList.flatMap be16
  | .source => sourceBytes (s.src (Fin.ofNat 8 i))
  | .steering => steeringBytes s.pointer s.keyboard s.freeCount
  | .counters => be32 (BitVec.ofNat 32 (s.counters.get (Fin.ofNat 76 i)))
  | .events => be16 s.events ++ be16 s.node.enable
  | .resetCause => [s.cause.setWidth 8]

/-- The entries a request reads, one after another (R17). -/
def readEntries (t : Table) (r : Request) (s : State) : List Byte :=
  (List.range r.count.toNat).flatMap fun k => entryBytes t s (r.index.toNat + k)

/-- The entries a request names, by index. -/
def namedEntries (r : Request) : List Nat := (List.range r.count.toNat).map (r.index.toNat + ·)

/-- R45: the changed and overrun flags of a slot cleared. -/
def clearHalfFlags (i : Slot) (s : State) : State := setSrc i { s.src i with changed := false, overrun := false } s

/-- What a GET leaves behind it: the flags of each SOURCE entry it read are cleared (R45), and a STEERING entry used free bytes. -/
def afterRead (t : Table) (r : Request) (s : State) : State :=
  match t with
  | .source => (namedEntries r).foldl (fun s i => clearHalfFlags (Fin.ofNat 8 i) s) s
  | .steering => { s with freeCount := s.freeCount + steeringFree * r.count.toNat }
  | .node | .subscribe | .forward | .screen | .layout | .regionPending | .regionActive | .preset | .hotkey | .deskHalf
  | .counters | .events | .resetCause => s

/-- What a GET_CLEAR sets: the counters it read to 0, or the reset cause record to empty (R175, R178). A GET_CLEAR of
RESET_CAUSE that reads no entry clears none (DEDUCED 35). -/
def afterClear (t : Table) (r : Request) (s : State) : State :=
  match t with
  | .counters =>
    { s with counters := (namedEntries r).foldl (fun v i => v.set (Fin.ofNat 76 i) 0 (Fin.ofNat 76 i).isLt) s.counters }
  | .resetCause => if r.count = 0 then s else { s with cause := 0 }
  | .node | .subscribe | .forward | .screen | .layout | .regionPending | .regionActive | .preset | .hotkey | .deskHalf
  | .source | .steering | .events => s

/-! ### DESCRIBE (R174) -/

/-- The records in four lists (R123). -/
def recordCount (v : Vector (List Region) 4) : Nat := (v.toList.map List.length).sum

/-- The capacity and used count of a table (R174). -/
def tableSizes (s : State) : Table → Nat × Nat
  | .node => (1, 1)
  | .subscribe => (8, s.sources.toList.countP fun x => x.addr.isSome)
  | .forward => (64, s.forwardSet.toList.countP fun a => a != 0)
  | .screen => (4, s.screens.toList.countP fun e => e.enabled)
  | .layout => (4, 4)
  | .regionPending => (64, recordCount s.pendingLists)
  | .regionActive => (64, recordCount s.activeLists)
  | .preset => (8, s.presets.toList.countP Option.isSome)
  | .hotkey => (16, s.keyboard.hotkeys.toList.countP fun h => h.valid)
  | .deskHalf => (8, 8)
  | .source => (8, s.sources.toList.countP fun x => x.state != .absent)
  | .steering => (1, 1)
  | .counters => (76, 76)
  | .events => (1, 1)
  | .resetCause => (1, 1)

/-- The tables in the order of their codes (R18). -/
def allTables : List Table :=
  [.node, .subscribe, .forward, .screen, .layout, .regionPending, .regionActive, .preset, .hotkey, .deskHalf, .source, .steering,
    .counters, .events, .resetCause]

/-- The 64 bytes of the answer to DESCRIBE: vendor code, part code, revision, and the sizes of the tables (R17, R174). -/
def describeBytes (s : State) : List Byte :=
  0x4C :: 0x24 :: 0x40 :: 1 :: allTables.flatMap fun t => natWord (tableSizes s t).1 ++ natWord (tableSizes s t).2

/-! ### The entries of a PUT -/

/-- The entries in a PUT's data, each with its index (R17). -/
def putEntries (t : Table) (r : Request) : List (Nat × List Byte) :=
  (List.range r.count.toNat).map fun k => (r.index.toNat + k, (r.data.drop (k * t.entryBytes)).take t.entryBytes)

/-- A flag byte: set when not 0. -/
def flagAt (e : List Byte) (i : Nat) : Bool := byteAt e i != 0

/-- A two-byte unsigned number. -/
def natAt (e : List Byte) (i : Nat) : Nat := (word16At e i).toNat

/-! ### NODE (R170) -/

/-- R170: the entry as written, each field clamped; the address is kept. -/
def nodeOf (held : NodeTable) (e : List Byte) : NodeTable :=
  let high := max 1 (byteAt e 3).toNat
  { held with
    shortLock := flagAt e 2
    qualityHigh := high
    qualityLow := min high (byteAt e 4).toNat
    ageLimit := clampNat 60 4096 (natAt e 5)
    speed := min 15 (byteAt e 7).toNat
    enable := word16At e 8
    background := colourAt e 10 }

/-- R170: whether a field of the entry is clamped. -/
def nodeClamped (e : List Byte) : Bool :=
  let high := max 1 (byteAt e 3).toNat
  (byteAt e 3 == 0) || high < (byteAt e 4).toNat || clampNat 60 4096 (natAt e 5) != natAt e 5 || 15 < (byteAt e 7).toNat

/-- R170: an entry whose node address differs from the one held is refused. -/
def nodeRefused (s : State) (e : List Byte) : Option Status :=
  if word16At e 0 = s.node.address.setWidth 16 then none else some .readOnly

/-- R170: the NODE entry written; a flag that is set and newly enabled makes an EVENT cell pending. -/
def writeNode (e : List Byte) (s : State) : State :=
  let n := nodeOf s.node e
  let added := n.enable &&& ~~~ s.node.enable &&& s.events
  { s with node := n, eventPending := s.eventPending || added != 0 }

/-! ### SUBSCRIBE and FORWARD (R171) -/

/-- The address a SUBSCRIBE entry writes, with 0 for absent. -/
def addrOf (e : List Byte) : Option Addr := if word16At e 0 = 0 then none else some (addrAt e 0)

/-- R171: an address above 4094 is refused. -/
def addrRefused (e : List Byte) : Bool := 4094 < natAt e 0

/-- The Subscription Table as a PUT would leave it (R171). -/
def subscribedAfter (s : State) (es : List (Nat × List Byte)) : List (Option Addr) :=
  allSlots.map fun i => match es.find? fun q => q.1 == i.val with
    | some q => addrOf q.2
    | none => (s.src i).addr

/-- Whether two entries hold the same address. -/
def hasDuplicate : List (Option Addr) → Bool
  | [] => false
  | none :: t => hasDuplicate t
  | some a :: t => t.contains (some a) || hasDuplicate t

/-- R171: the value checks of a PUT of SUBSCRIBE. -/
def subscribeRefused (s : State) (es : List (Nat × List Byte)) : Option Status :=
  if es.any (fun q => addrRefused q.2) || hasDuplicate (subscribedAfter s es) then some .badValue else none

/-- R171: an entry of SUBSCRIBE written under R54. `putTable` takes the entries in index order. So a PUT that moves an address to a
lower-numbered slot handles the new slot before the old one is torn down, although R171 also says that the old slot is torn down first
(DEDUCED 38). -/
def writeSubscribe (i : Nat) (e : List Byte) (s : State) : State := subscribe (Fin.ofNat 8 i) (addrOf e) s

def writeForward (i : Nat) (e : List Byte) (s : State) : State :=
  { s with forwardSet := s.forwardSet.set (Fin.ofNat 64 i) (addrAt e 0) (Fin.ofNat 64 i).isLt }

/-! ### SCREEN (R172, R89, R90) -/

/-- A value clamped into a range and rounded down to a multiple of 8 (R172). -/
def clampRound (lo hi x : Nat) : Nat := clampNat lo hi x / 8 * 8

/-- The settings a SCREEN entry gives, beside the picture held. -/
def screenOf (held : ScreenSettings) (e : List Byte) : ScreenSettings :=
  { held with
    enabled := flagAt e 0
    width := clampRound 1280 3840 (natAt e 1)
    height := clampRound 720 2160 (natAt e 3)
    rate := clampNat 24 120 (byteAt e 5).toNat
    blank := flagAt e 6
    identify := flagAt e 7 }

/-- R172: whether a field of the entry is clamped; a change by rounding alone is a clamp. -/
def screenClamped (e : List Byte) : Bool :=
  clampRound 1280 3840 (natAt e 1) != natAt e 1 || clampRound 720 2160 (natAt e 3) != natAt e 3 ||
    clampNat 24 120 (byteAt e 5).toNat != (byteAt e 5).toNat

/-- A vertical start made by a write: a picture begins, and a pending swap is taken; the fences it makes due wait for the
request's own response (R90, R115, R122). -/
def startPicture (d : Desk) (s : State) : State := takeSwap false d (beginPicture d s)

/-- R90, R116, R141: one SCREEN entry written. Disabling completes a pending swap first; a new size of the enabled pointer screen
clamps the pointer before the swap that the write's vertical start takes. The swap that a disabling write completes is taken at the old
size, before the new one is written (DEDUCED 34). -/
def writeScreen (i : Nat) (e : List Byte) (s : State) : State :=
  let d : Desk := Fin.ofNat 4 i
  let old := s.screen d
  let new := screenOf old e
  if old.enabled then
    if new.enabled then
      let resized := old.width != new.width || old.height != new.height
      let s := setScreen d new s
      let s := if resized then fitPointer d s else s
      if resized || old.rate != new.rate then startPicture d s else s
    else
      let s := takeSwap false d s
      setScreen d { new with picture := none } s
  else if new.enabled then startPicture d (setScreen d new s)
  else setScreen d new s

/-- R139, R140, R172: once every entry of a PUT is written, the pointer moves off a screen that was disabled, or is placed if it was
absent and a screen is enabled. -/
def settlePointer (s : State) : State :=
  match s.pointer.screen with
  | some d => if (s.screen d).enabled then s else leaveDisabled s
  | none => if s.lowestEnabled.isSome then placeAndReevaluate s else s

/-! ### LAYOUT (R172) -/

/-- The sides of a LAYOUT entry stand at these offsets (R18). -/
def edgeOffsets : List Nat := [0, 3, 6, 9]

/-- R172: a neighbour byte is 0..3 or 255. -/
def layoutRefused (e : List Byte) : Bool := edgeOffsets.any fun k => 3 < (byteAt e k).toNat && byteAt e k != 255

def neighbourOf (b : Byte) : Option Desk := if h : b.toNat < 4 then some ⟨b.toNat, h⟩ else none

/-- The link at an offset of a LAYOUT entry, its offset clamped (R172). -/
def layoutLinkAt (e : List Byte) (k : Nat) : LayoutLink :=
  ⟨neighbourOf (byteAt e k), clampInt (-2160) 2160 (word16At e (k + 1)).toInt⟩

def layoutClamped (e : List Byte) : Bool :=
  edgeOffsets.any fun k => clampInt (-2160) 2160 (word16At e (k + 1)).toInt != (word16At e (k + 1)).toInt

def writeLayout (i : Nat) (e : List Byte) (s : State) : State :=
  let x : LayoutEntry := ⟨layoutLinkAt e 0, layoutLinkAt e 3, layoutLinkAt e 6, layoutLinkAt e 9⟩
  { s with layout := s.layout.set (Fin.ofNat 4 i) x (Fin.ofNat 4 i).isLt }

/-! ### REGION_PENDING (R112, R113) -/

/-- The size of a region record (R18). -/
def recordBytes : Nat := 21

/-- The records in the data of a PUT to REGION_PENDING. -/
def recordsOf (r : Request) : List (List Byte) :=
  (List.range r.count.toNat).map fun k => (r.data.drop (k * recordBytes)).take recordBytes

/-- R112: whether a record fails by itself, against bounds of the screen. -/
def recordFails (width height : Nat) (e : List Byte) : Bool :=
  byteAt e 0 == 0 || natAt e 5 < 16 || natAt e 7 < 16 || width < natAt e 1 + natAt e 5 || height < natAt e 3 + natAt e 7 ||
    (flagAt e 9 && (7 < (byteAt e 10).toNat || 3 < (byteAt e 11).toNat))

/-- R112: the bounds of a list: the screen's size while it is enabled, 3840 by 2160 while it is disabled. -/
def listBounds (e : ScreenSettings) : Nat × Nat := if e.enabled then (e.width, e.height) else (3840, 2160)

/-- R112 check 4: some record fails, or two carry the same id. -/
def listFails (e : ScreenSettings) (l : List (List Byte)) : Bool :=
  l.any (recordFails (listBounds e).1 (listBounds e).2) || !decide (l.map fun x => byteAt x 0).Nodup

/-- R113: the record with its scale and source origin clamped. -/
def regionOf (e : List Byte) : Region where
  id := byteAt e 0
  x := natAt e 1
  y := natAt e 3
  w := natAt e 5
  h := natAt e 7
  source :=
    if flagAt e 9 then
      some ⟨Fin.ofNat 8 (byteAt e 10).toNat, Fin.ofNat 4 (byteAt e 11).toNat, min 3839 (natAt e 12), min 2159 (natAt e 14),
        clampInt (-3) 3 (byteAt e 16).toInt⟩
    else none
  input := flagAt e 17
  fill := colourAt e 18

/-- R113: whether a field of a present source part is clamped. -/
def regionClamped (e : List Byte) : Bool :=
  flagAt e 9 && (3839 < natAt e 12 || 2159 < natAt e 14 || clampInt (-3) 3 (byteAt e 16).toInt != (byteAt e 16).toInt)

/-! ### HOTKEY (R156) -/

/-- R156: a valid entry is refused for a key code that is never newly pressed, or an action code outside 1..7. -/
def hotkeyRefused (e : List Byte) : Bool :=
  flagAt e 0 && (byteAt e 2 == 0 || byteAt e 2 == 1 || (0xE0 ≤ (byteAt e 2).toNat && (byteAt e 2).toNat ≤ 0xE7) ||
    byteAt e 3 == 0 || 7 < (byteAt e 3).toNat)

/-- R156: the argument that is stored with an action. -/
def hotkeyArgument (action argument : Byte) : Byte :=
  match action.toNat with
  | 1 => if 7 < argument.toNat then 7 else argument
  | 4 | 5 => argument &&& 0x0F
  | _ => 0

/-- R156: the entry stored; an invalid one as received. -/
def hotkeyOf (e : List Byte) : Hotkey :=
  if flagAt e 0 then ⟨true, byteAt e 1, byteAt e 2, byteAt e 3, hotkeyArgument (byteAt e 3) (byteAt e 4)⟩
  else ⟨false, byteAt e 1, byteAt e 2, byteAt e 3, byteAt e 4⟩

/-- R156: only a PRESET argument above 7 is a clamp. -/
def hotkeyClamped (e : List Byte) : Bool := flagAt e 0 && byteAt e 3 == 1 && 7 < (byteAt e 4).toNat

def writeHotkey (i : Nat) (e : List Byte) (s : State) : State :=
  { s with keyboard :=
      { s.keyboard with hotkeys := s.keyboard.hotkeys.set (Fin.ofNat 16 i) (hotkeyOf e) (Fin.ofNat 16 i).isLt } }

/-! ### DESK_HALF (R173) -/

/-- R173: an entry whose word 0 or word 1 differs from the word held is refused. -/
def deskHalfRefused (s : State) (i : Nat) (e : List Byte) : Bool :=
  let x := s.src (Fin.ofNat 8 i)
  word16At e 0 != x.deskHalf.get 0 || word16At e 2 != x.deskHalf.get 1

/-- Words 2 to 7 of an entry, written over the words held. -/
def deskHalfOf (held : Vector Word16 8) (e : List Byte) : Vector Word16 8 :=
  (((((held.set 2 (word16At e 4)).set 3 (word16At e 6)).set 4 (word16At e 8)).set 5 (word16At e 10)).set 6
    (word16At e 12)).set 7 (word16At e 14)

/-- R173: words 2 to 7 are written, and the slot becomes due. -/
def writeDeskHalf (i : Nat) (e : List Byte) (s : State) : State :=
  let i : Slot := Fin.ofNat 8 i
  makeDue i (setSrc i { s.src i with deskHalf := deskHalfOf (s.src i).deskHalf e } s)

end Sys2Proof.Machine
end

