-- ==== Sys2Proof/Machine/Uplink.lean ====
section
/-!
DEFINITION. The Uplink Arbiter and the two transmitters: choice, begin, completion and abort (R11, R24 to R26, R31 to R36, R82),
and the meanings of their commands.
-/

namespace Sys2Proof.Machine

/-! ### The own side (R32) -/

/-- What the arbiter's own side serves. -/
inductive OwnPick where
  | hid (e : HidEntry)
  | response (r : Response)
  | event
  | refresh (x : ImageIx) (e : RefreshEntry)
  | deskStatus (i : Slot)
deriving DecidableEq, Repr

/-- The unsent refresh entries of all admitted screens, each with its image slot (R32 class 3). -/
def State.unsentEntries (s : State) : List (ImageIx × RefreshEntry) :=
  allImages.flatMap fun x => match s.image x with
    | none => []
    | some t => (t.entries.filter fun e => !e.sent).map fun e => (x, e)

/-- R76: how far an entry's number lies behind the creation counter; the entry made first lies furthest. -/
def State.entryAge (s : State) (q : ImageIx × RefreshEntry) : Nat := (s.creation - q.2.creation).toNat

/-- R76: the unsent entry that was made first. -/
def State.oldestUnsent (s : State) : Option (ImageIx × RefreshEntry) :=
  s.unsentEntries.foldl (fun best q => match best with
    | none => some q
    | some b => if s.entryAge b < s.entryAge q then some q else some b) none

/-- The lowest-numbered due slot (R32 class 4). -/
def State.lowestDue (s : State) : Option Slot := allSlots.find? fun i => (s.src i).due

/-- R32: the first class with an eligible cell, in the own order. -/
def State.ownPick (s : State) : Option OwnPick :=
  match s.hidQueue, s.responses with
  | e :: _, _ => some (.hid e)
  | [], r :: _ => some (.response r)
  | [], [] =>
    if s.eventPending && !s.holdoffRuns then some .event
    else match s.oldestUnsent with
      | some (x, e) => some (.refresh x e)
      | none => s.lowestDue.map .deskStatus

/-! ### The cells the node builds (R14, R16, R32) -/

/-- The link address of a slot, 0 while it has none. -/
def State.slotAddr (s : State) (i : Slot) : Addr := ((s.src i).addr).getD 0

/-- The status codes (R17). -/
def Status.code : Status → Byte
  | .ok => 0 | .clamped => 1 | .noTable => 2 | .noIndex => 3 | .badValue => 4 | .readOnly => 5 | .busy => 6 | .empty => 7
  | .badRequest => 8

/-- The slot and source screen whose image slot holds a list (R82). -/
def State.ownerOf (s : State) (x : ImageIx) : Slot × SrcScreen :=
  match s.image x with
  | none => (0, 0)
  | some t => (t.owner, t.screen)

/-- The payload of a HID entry's cell (R16, R32). -/
def hidPayload : HidEntry → List Byte
  | .key _ m l => m :: sixKeys l
  | .pointer _ k ax ay b w => natByte k.val :: (natWord ax ++ natWord ay ++ [b.setWidth 8, intByte w])

/-- The kind of a HID entry's cell. -/
def hidKind : HidEntry → Kind
  | .key _ _ _ => .hidKey
  | .pointer _ _ _ _ _ _ => .hidPointer

/-- R11, R32: the cell built at the begin event from the state as it stands. -/
def State.ownCell (s : State) : OwnPick → Cell
  | .hid e => ⟨hidKind e, s.node.address, s.slotAddr e.slot, hidPayload e⟩
  | .response r => ⟨.mgmtRsp, s.node.address, r.dest, be16 r.tag ++ (r.status.code :: r.data)⟩
  | .event => ⟨.event, s.node.address, s.controller, be16 s.events ++ be16 s.node.enable⟩
  | .refresh x e =>
    ⟨.refresh, s.node.address, s.slotAddr (s.ownerOf x).1, natByte (s.ownerOf x).2.val :: (natWord e.first ++ natWord e.count)⟩
  | .deskStatus i => ⟨.deskStatus, s.node.address, s.slotAddr i, (s.src i).deskHalf.toList.flatMap be16⟩

/-- What the completion or abort of the cell will be told to. -/
def OwnPick.txClass : OwnPick → TxClass
  | .hid _ => .hidEntry
  | .response r => .response r.isReset
  | .event => .event
  | .refresh x e => .refresh x e.creation
  | .deskStatus i => .deskStatus i

/-- The sent flag of the entry with a creation order number (R82, R35). -/
def markSent (v : Bool) (n : BitVec 32) (t : Tracking) : Tracking :=
  { t with entries := t.entries.map fun e => if e.creation = n then { e with sent := v } else e }

/-- R34: the served cell leaves its class at the begin event; a freed response place answers the oldest due fence (R122). -/
def leaveClass (q : OwnPick) (s : State) : State :=
  match q with
  | .hid _ => { s with hidQueue := s.hidQueue.drop 1 }
  | .response _ => answerOldestDue { s with responses := s.responses.drop 1 }
  | .event => bump .mgEventsSent { s with eventPending := false, lastEventBegan := some s.now }
  | .refresh x e => bump .rsSent (modTrack x (markSent true e.creation) s)
  | .deskStatus i => setSrc i { s.src i with due := false } s

/-! ### Begin on Port A (R31) -/

/-- A cell in flight on a port. -/
def putInFlight (p : Port) (c : Cell) (k : TxClass) (s : State) : State :=
  setPort p { s.port p with tx := some ⟨c, k⟩ } s

/-- The arbiter serves the forwarded side. -/
def serveForwarded (c : Cell) (s : State) : State :=
  putInFlight .a c .forwarded { s with uplinkQueue := s.uplinkQueue.drop 1, lastServed := .forwarded }

/-- The arbiter serves the own side. -/
def serveOwn (q : OwnPick) (s : State) : State :=
  let c := s.ownCell q
  putInFlight .a c q.txClass { leaveClass q s with lastServed := .own }

/-- R31: the arbiter chooses one cell and Port A begins it, when Port A is UP, its transmitter free and a cell eligible. With both
sides eligible it serves the one not last served. -/
def beginA (s : State) : State :=
  if s.portA.link = .up ∧ s.portA.tx = none then
    match s.uplinkQueue, s.ownPick with
    | [], none => s
    | c :: _, none => serveForwarded c s
    | [], some q => serveOwn q s
    | c :: _, some q => if s.lastServed = .own then serveForwarded c s else serveOwn q s
  else s

/-- R24: Port B begins the head of its transmit queue, when it is UP and its transmitter free. -/
def beginB (s : State) : State :=
  if s.portB.link = .up ∧ s.portB.tx = none then
    match s.portBQueue with
    | [] => s
    | c :: t => putInFlight .b c .forwarded { s with portBQueue := t }
  else s

/-! ### Completion and abort -/

/-- R11, R12: a transmission completes. The completion of a NODE_RESET response starts the node reset; the arbiter's next begin may be
taken before it. -/
def completeTx (p : Port) (order : ResetOrder) (s : State) : State :=
  match (s.port p).tx with
  | none => s
  | some f =>
    let s := bump (txCellsCounter p) (setPort p { s.port p with tx := none } s)
    match p, f.source with
    | .a, .response true =>
      match order with
      | .resetFirst => nodeResetEffect s
      | .beginFirst => nodeResetEffect (beginA s)
    | _, _ => s

/-- R35: the arbiter handles an aborted cell by its class. -/
def handleAborted (k : TxClass) (s : State) : State :=
  match k with
  | .forwarded | .hidEntry | .response false => s
  | .response true => nodeResetEffect s
  | .event => { s with eventPending := true }
  | .refresh x n => modTrack x (markSent false n) s
  | .deskStatus i => makeDue i s

/-- R11: a cell in flight on a port that leaves UP is aborted. -/
def abortTx (p : Port) (s : State) : State :=
  match (s.port p).tx with
  | none => s
  | some f =>
    let s := bump (txAbortedCounter p) (setPort p { s.port p with tx := none } s)
    match p with
    | .a => handleAborted f.source s
    | .b => s

/-- R25: when Port B leaves UP, every cell in its transmit queue is discarded and counted. -/
def discardB (s : State) : State := bumpBy .fwdBTxDrop s.portBQueue.length { s with portBQueue := [] }

/-! ### Meanings -/

/-- PORT_B_CELL (R26): a valid cell from Port B joins the forwarded uplink queue if fewer than 16 are queued. -/
def execPortBCell (c : Cell) (s : State) : Host.Outcome State Fault Refusal :=
  .next (whenRunning (cellEvent .b c fun s =>
    if s.uplinkQueue.length < 16 then { s with uplinkQueue := s.uplinkQueue ++ [c] } else bump .fwdUpDrop s) s)

/-- PORT_A_BEGIN (R31 to R34). -/
def execPortABegin (s : State) : Host.Outcome State Fault Refusal := .next (whenRunning beginA s)

/-- FENCE_ANSWER_DEFERRED (R122). The begin of a response does the same within its own event (DEDUCED 9). -/
def execFenceAnswerDeferred (s : State) : Host.Outcome State Fault Refusal := .next (whenRunning answerOldestDue s)

/-- PORT_B_BEGIN (R24). -/
def execPortBBegin (s : State) : Host.Outcome State Fault Refusal := .next (whenRunning beginB s)

/-- TX_COMPLETE (R11, R12, R180). -/
def execTxComplete (p : Port) (order : ResetOrder) (s : State) : Host.Outcome State Fault Refusal :=
  .next (whenRunning (completeTx p order) s)

/-- EVENT_HOLDOFF_END (R33): the clock stands at 10 ms after the last EVENT cell began, or later. -/
def execEventHoldoffEnd (s : State) : Host.Outcome State Fault Refusal :=
  .next (whenRunning (fun s => match s.lastEventBegan with
    | none => s
    | some t => advanceTo (t + Config.holdoff) s) s)

end Sys2Proof.Machine
end

