-- ==== Sys2Proof/Machine/Link.lean ====
section
/-!
DEFINITION. The receive sides of the link ports: lock (R1 to R3), the delimiting of cells (R5), bad cells (R6) and the quality window
(R9, R10), and the meanings of those commands. `groupCommand` says which command a code group received in a state is, and
`State.sentGroup` which code group a transmit side sends (R11).
-/

namespace Sys2Proof.Machine

/-! ### Lock (R2) -/

/-- The lock threshold (R2). -/
def State.lockThreshold (s : State) : Nat := if s.node.shortLock then 32 else 4096

/-- The lock count after a valid code group in DOWN or ACQUIRING (R2). -/
def nextLockCount (x : PortState) : Nat :=
  match x.link with
  | .down => 1
  | .acquiring | .up => min 4096 (x.lockCount + 1)

/-- Whether a valid code group brings a port that is not UP to UP (R2). -/
def State.reachesLock (s : State) (p : Port) : Bool :=
  (s.port p).link != .up && s.lockThreshold ≤ nextLockCount (s.port p)

/-- R2: a port becomes UP. -/
def becomeUp (p : Port) (s : State) : State :=
  let x := s.port p
  setPort p { x with
    link := .up, lockCount := nextLockCount x, invalidRun := 0, rx := none
    quality := .good, windowCount := 0, windowBad := 0 } s

/-- R2: a code group at a port in DOWN or ACQUIRING that does not bring it UP. -/
def countLock (p : Port) (g : CodeGroup) (s : State) : State :=
  let x := s.port p
  if g = .invalid then setPort p { x with link := .down, lockCount := 0 } s
  else setPort p { x with link := .acquiring, lockCount := nextLockCount x } s

/-! ### Loss of lock (R3) -/

/-- R3: an UP port loses lock at its fourth consecutive invalid code group. -/
def loseLock (p : Port) (s : State) : State :=
  let x := s.port p
  let s := setPort p { x with
    link := .down, lockCount := 0, invalidRun := 0, rx := none, quality := .good, windowCount := 0, windowBad := 0 } s
  let s := setFlag (downFlag p) (bump (lockLossesCounter p) s)
  let s := if x.rx.isSome then bump (rxCutCounter p) s else s
  let s := match p with
    | .a => s
    | .b => discardB s
  abortTx p s

/-! ### Delimiting (R5) -/

/-- The receive side of an UP port changed. -/
def setRx (p : Port) (rx : Option RxCell) (run : Nat) (s : State) : State :=
  setPort p { s.port p with rx := rx, invalidRun := run } s

/-- R5: a code group at an UP port that neither ends a cell nor completes a run of four invalid ones; none for the others. -/
def delimit (x : PortState) (g : CodeGroup) : Option (Option RxCell × Nat) :=
  match g, x.rx with
  | .startDelim, none => some (some ⟨[], false⟩, 0)
  | .startDelim, some _ => none
  | .data _, none => some (none, 0)
  | .data b, some c => if c.bytes.length + 1 < 1036 then some (some { c with bytes := c.bytes ++ [b] }, 0) else none
  | .endDelim, none => some (none, 0)
  | .endDelim, some _ => none
  | .idle, r => some (r, 0)
  | .invalid, r =>
    if x.invalidRun < 3 then some (r.map fun c => { c with damaged := true }, x.invalidRun + 1) else none

/-- The check that a cell ended by a framing overrun fails first (R5, R6). -/
def overrunCheck (c : RxCell) : RxCheck := if c.damaged then .code else .frame

/-- R5: the data group that makes 1036 bytes. -/
def overrun (p : Port) (b : Byte) (s : State) : State :=
  match (s.port p).rx with
  | none => s
  | some c => onlyIf (1036 ≤ (c.bytes ++ [b]).length) (badCellEnds p (overrunCheck c) none) s

/-- What is in reception after a cell has ended: nothing, or the new cell of the start delimiter that ended it (R5). -/
def afterEnding : CellEnding → Option RxCell
  | .atEnd => none
  | .atStart => some ⟨[], false⟩

/-! ### Which command a code group is -/

/-- R1: each code group received is one event at its port. This is the command it is. -/
def groupCommand (s : State) (p : Port) (g : CodeGroup) : Instr :=
  let x := s.port p
  match x.link with
  | .up =>
    match g, x.rx with
    | .startDelim, some c => commandOfEnding s.node.address p c .atStart
    | .endDelim, some c => commandOfEnding s.node.address p c .atEnd
    | .data b, some c => if c.bytes.length + 1 < 1036 then .upCodeGroup p g else .framingOverrun p b
    | .invalid, _ => if x.invalidRun < 3 then .upCodeGroup p g else .linkDown p
    | _, _ => .upCodeGroup p g
  | .down | .acquiring => if g ≠ .invalid ∧ s.reachesLock p then .linkUp p g else .acquisitionCodeGroup p g

/-! ### What a transmit side sends (R11) -/

/-- R11: the code groups that a cell is sent as: the start delimiter, its bytes as data groups, the end delimiter. -/
def cellGroups (c : Cell) : List CodeGroup := .startDelim :: ((cellBytes c).map .data ++ [.endDelim])

/-- R11: the code group that a port's transmit side sends in the `n`-th code-group period since the begin event of its cell in flight, or in
any period while none is in flight: then, and in every link state, an idle group. The end delimiter's period is the completion event, and an
abort or a reset that cuts the cell off leaves the rest unsent (R11, R12). While the reset line is asserted it sends nothing (DEDUCED 20). -/
def State.sentGroup (s : State) (p : Port) (n : Nat) : Option CodeGroup :=
  if s.resetLine then none
  else match (s.port p).tx with
    | none => some .idle
    | some f => some ((cellGroups f.cell).getD n .idle)

/-! ### Meanings -/

/-- LINK_UP (R2). -/
def execLinkUp (p : Port) (g : CodeGroup) (s : State) : Host.Outcome State Fault Refusal :=
  .next (whenRunning (onlyIf (g != .invalid && s.reachesLock p) (becomeUp p)) s)

/-- LINK_DOWN (R3). -/
def execLinkDown (p : Port) (s : State) : Host.Outcome State Fault Refusal :=
  .next (whenRunning (onlyIf ((s.port p).link == .up && (s.port p).invalidRun == 3) (loseLock p)) s)

/-- FRAMING_OVERRUN (R5, R6). -/
def execFramingOverrun (p : Port) (b : Byte) (s : State) : Host.Outcome State Fault Refusal :=
  .next (whenRunning (onlyIf ((s.port p).link == .up) (overrun p b)) s)

/-- QUALITY_WINDOW_END (R10). The cell that brings the count to 4096 does the same within its own event (DEDUCED 10). -/
def execQualityWindowEnd (p : Port) (s : State) : Host.Outcome State Fault Refusal :=
  .next (whenRunning (onlyIf ((s.port p).link == .up && windowLength ≤ (s.port p).windowCount) (endWindow p)) s)

/-- BAD_CELL (R6). -/
def execBadCell (p : Port) (c : RxCell) (e : CellEnding) (s : State) : Host.Outcome State Fault Refusal :=
  .next (whenRunning (fun s => match firstFailure c e with
    | none => s
    | some k => onlyIf (s.canEnd p c) (badCellEnds p k (afterEnding e)) s) s)

/-- WRONG_DIRECTION_CELL (R8). -/
def execWrongDirectionCell (c : Cell) (s : State) : Host.Outcome State Fault Refusal :=
  .next (whenRunning (onlyIf (!c.kind.isDown) (cellEvent .a c (bump .aRxWrongDir))) s)

/-- ACQUISITION_CODE_GROUP (R2). -/
def execAcquisitionCodeGroup (p : Port) (g : CodeGroup) (s : State) : Host.Outcome State Fault Refusal :=
  .next (whenRunning
    (onlyIf ((s.port p).link != .up && !(g != .invalid && s.reachesLock p)) (countLock p g)) s)

/-- UP_CODE_GROUP (R3, R5). -/
def execUpCodeGroup (p : Port) (g : CodeGroup) (s : State) : Host.Outcome State Fault Refusal :=
  .next (whenRunning (onlyIf ((s.port p).link == .up) (fun s => match delimit (s.port p) g with
    | none => s
    | some (rx, run) => setRx p rx run s)) s)

end Sys2Proof.Machine
end

