-- ==== Sys2Proof/Machine/Management.lean ====
section
/-!
DEFINITION. The Management Unit's request kinds and their answers, and the meanings of the management requests (R112 to R114, R119 to
R121, R156, R166 to R177, R180).
-/

namespace Sys2Proof.Machine

/-! ### GET and GET_CLEAR (R169, R175) -/

/-- The most bytes of entries an answer holds (R17, R169 check 6). -/
def answerRoom : Nat := 1021

/-- R169, R45: a GET. -/
def answerGet (r : Request) (s : State) : State :=
  match tableOfCode r.table with
  | none => respond r .noTable [] s
  | some t =>
    if inRange t r then
      let data := readEntries t r s
      if data.length ≤ answerRoom then respond r .ok data (afterRead t r s) else respond r .badRequest [] s
    else respond r .noIndex [] s

/-- The tables a GET_CLEAR may name (R169 check 3). -/
def clearable : Table → Bool
  | .counters | .resetCause => true
  | .node | .subscribe | .forward | .screen | .layout | .regionPending | .regionActive | .preset | .hotkey | .deskHalf
  | .source | .steering | .events => false

/-- R169, R175, R178: a GET_CLEAR. -/
def answerGetClear (r : Request) (s : State) : State :=
  match tableOfCode r.table with
  | none => respond r .noTable [] s
  | some t =>
    if clearable t then
      if inRange t r then
        let data := readEntries t r s
        if data.length ≤ answerRoom then respond r .ok data (afterClear t r s) else respond r .badRequest [] s
      else respond r .noIndex [] s
    else respond r .badRequest [] s

/-! ### PUT (R169) -/

/-- R169: the answer to a PUT that has been applied: CLAMPED, with VALUE_CLAMPED set once, when a field was clamped. -/
def answerWritten (r : Request) (clamped : Bool) (s : State) : State :=
  if clamped then respond r .clamped [] (setFlag .valueClamped s) else respond r .ok [] s

/-- R169: a PUT to one table: checks 4 and 5, then the table's value checks, then the entries in index order. -/
def putTable (t : Table) (r : Request) (refused : State → List (Nat × List Byte) → Option Status)
    (write : Nat → List Byte → State → State) (clamped : List Byte → Bool) (finish : State → State) (s : State) : State :=
  if inRange t r then
    if dataFits t r then
      let es := putEntries t r
      match refused s es with
      | some st => respond r st [] s
      | none => answerWritten r (es.any fun q => clamped q.2) (finish (es.foldl (fun s q => write q.1 q.2 s) s))
    else respond r .badRequest [] s
  else respond r .noIndex [] s

/-- A value check made entry by entry, all with one status. -/
def refuseAny (st : Status) (bad : State → Nat × List Byte → Bool) (s : State) (es : List (Nat × List Byte)) : Option Status :=
  if es.any (bad s) then some st else none

/-- R170: a PUT to NODE. -/
def answerPutNode (r : Request) (s : State) : State :=
  putTable .node r (fun s es => (es.head?).bind fun q => nodeRefused s q.2) (fun _ => writeNode) nodeClamped id s

/-- R171: a PUT to SUBSCRIBE; its entries are handled in index order, whichever way an address moves (DEDUCED 17 and 38). -/
def answerPutSubscribe (r : Request) (s : State) : State :=
  putTable .subscribe r subscribeRefused writeSubscribe (fun _ => false) id s

/-- R171: a PUT to FORWARD. -/
def answerPutForward (r : Request) (s : State) : State :=
  putTable .forward r (refuseAny .badValue fun _ q => addrRefused q.2) writeForward (fun _ => false) id s

/-- R172: a PUT to SCREEN; the fences its swaps make due are answered after its own response (R122). -/
def answerPutScreen (r : Request) (s : State) : State :=
  answerDueFences (putTable .screen r (fun _ _ => none) writeScreen screenClamped settlePointer s)

/-- R172: a PUT to LAYOUT. -/
def answerPutLayout (r : Request) (s : State) : State :=
  putTable .layout r (refuseAny .badValue fun _ q => layoutRefused q.2) writeLayout layoutClamped id s

/-- R156: a PUT to HOTKEY. -/
def answerPutHotkey (r : Request) (s : State) : State :=
  putTable .hotkey r (refuseAny .badValue fun _ q => hotkeyRefused q.2) writeHotkey hotkeyClamped id s

/-- R173: a PUT to DESK_HALF. -/
def answerPutDeskHalf (r : Request) (s : State) : State :=
  putTable .deskHalf r (refuseAny .readOnly fun s q => deskHalfRefused s q.1 q.2) writeDeskHalf (fun _ => false) id s

/-- R112, R113: a PUT to REGION_PENDING. -/
def answerPutRegionPending (r : Request) (s : State) : State :=
  if h : r.index.toNat < 4 then
    let d : Desk := ⟨r.index.toNat, h⟩
    if 16 < r.count.toNat then respond r .badValue [] (bump .vcListsRefused s)
    else if r.data.length ≠ r.count.toNat * recordBytes then respond r .badRequest [] s
    else
      let l := recordsOf r
      if listFails (s.screen d) l then respond r .badValue [] (bump .vcListsRefused s)
      else answerWritten r (l.any regionClamped) (setPendingList d (l.map regionOf) s)
  else respond r .noIndex [] s

/-- R169: any PUT: checks 1 and 2, then the table's own. -/
def answerPut (r : Request) (s : State) : State :=
  match tableOfCode r.table with
  | none => respond r .noTable [] s
  | some .node => answerPutNode r s
  | some .subscribe => answerPutSubscribe r s
  | some .forward => answerPutForward r s
  | some .screen => answerPutScreen r s
  | some .layout => answerPutLayout r s
  | some .regionPending => answerPutRegionPending r s
  | some .hotkey => answerPutHotkey r s
  | some .deskHalf => answerPutDeskHalf r s
  | some .regionActive | some .preset | some .source | some .steering | some .counters | some .events | some .resetCause =>
    respond r .readOnly [] s

/-! ### The requests that name no table (R168) -/

/-- R114: a SWAP is answered OK; the fences its swaps make due are answered after that (R122). -/
def answerSwap (r : Request) (s : State) : State :=
  answerDueFences (respond r .ok [] (requestSwap false (r.index.setWidth 4) s))

/-- The set of desk screens whose swap-pending flag is set (R121). -/
def State.swapsPending (s : State) : BitVec 4 :=
  allDesks4.foldl (fun m d => if s.swapWaits d then m ||| BitVec.twoPow 4 d.val else m) 0

/-- R121: a FENCE. -/
def answerFence (r : Request) (s : State) : State :=
  if s.swapsPending = 0 then respond r .ok [] s
  else if s.fences.length < 4 then { s with fences := s.fences ++ [⟨r.tag, r.origin, s.swapsPending⟩] }
  else respond r .busy [] (bump .vcFenceBusy s)

/-- R119: a PRESET_STORE. -/
def answerPresetStore (r : Request) (s : State) : State :=
  if h : r.index.toNat < 8 then respond r .ok [] { s with presets := s.presets.set r.index.toNat (some s.activeLists) h }
  else respond r .noIndex [] s

/-- R120: a PRESET_LOAD. -/
def answerPresetLoad (r : Request) (s : State) : State :=
  if h : r.index.toNat < 8 then
    match s.presets.get ⟨r.index.toNat, h⟩ with
    | none => respond r .empty [] s
    | some lists => answerDueFences (respond r .ok [] (loadPreset false lists s))
  else respond r .noIndex [] s

/-- R177: a CLEAR_EVENTS. -/
def answerClearEvents (r : Request) (s : State) : State := respond r .ok [] { s with events := s.events &&& ~~~ r.index }

/-- R174: a DESCRIBE. -/
def answerDescribe (r : Request) (s : State) : State := respond r .ok (describeBytes s) s

/-- R180: a NODE_RESET: its answer joins the queue, and the reset-pending mark is set. -/
def answerNodeReset (r : Request) (s : State) : State :=
  { pushResponse ⟨r.tag, .ok, [], r.origin, true⟩ s with resetPending := true }

/-- R168: a request of no known kind: nothing else of it is examined. -/
def answerUnknown (r : Request) (s : State) : State := respond r .badRequest [] s

/-- R168: a kind code outside 1..10. -/
def unknownKind (kind : Byte) : Bool := kind == 0 || 10 < kind.toNat

/-! ### Meanings -/

/-- A request command: the cell of the request ends on Port A and the node takes it (R23, R166). -/
def runRequest (kind : Byte) (r : Request) (answer : Request → State → State) (s : State) :
    Host.Outcome State Fault Refusal :=
  .next (whenRunning (requestEvent kind r (answer r)) s)

/-- GET (R169). -/
def execGet (r : Request) (s : State) : Host.Outcome State Fault Refusal := runRequest 1 r answerGet s

/-- GET_SOURCE (R45): a GET of the SOURCE table. -/
def execGetSource (r : Request) (s : State) : Host.Outcome State Fault Refusal := runRequest 1 { r with table := 11 } answerGet s

/-- GET_CLEAR (R175). -/
def execGetClear (r : Request) (s : State) : Host.Outcome State Fault Refusal := runRequest 3 r answerGetClear s

/-- PUT (R169). -/
def execPut (r : Request) (s : State) : Host.Outcome State Fault Refusal := runRequest 2 r answerPut s

/-- PUT_NODE (R170). -/
def execPutNode (r : Request) (s : State) : Host.Outcome State Fault Refusal := runRequest 2 { r with table := 1 } answerPutNode s

/-- PUT_SUBSCRIBE (R171). -/
def execPutSubscribe (r : Request) (s : State) : Host.Outcome State Fault Refusal :=
  runRequest 2 { r with table := 2 } answerPutSubscribe s

/-- PUT_FORWARD (R171). -/
def execPutForward (r : Request) (s : State) : Host.Outcome State Fault Refusal :=
  runRequest 2 { r with table := 3 } answerPutForward s

/-- PUT_SCREEN (R172). -/
def execPutScreen (r : Request) (s : State) : Host.Outcome State Fault Refusal :=
  runRequest 2 { r with table := 4 } answerPutScreen s

/-- PUT_LAYOUT (R172). -/
def execPutLayout (r : Request) (s : State) : Host.Outcome State Fault Refusal :=
  runRequest 2 { r with table := 5 } answerPutLayout s

/-- PUT_REGION_PENDING (R112, R113). -/
def execPutRegionPending (r : Request) (s : State) : Host.Outcome State Fault Refusal :=
  runRequest 2 { r with table := 6 } answerPutRegionPending s

/-- PUT_HOTKEY (R156). -/
def execPutHotkey (r : Request) (s : State) : Host.Outcome State Fault Refusal :=
  runRequest 2 { r with table := 9 } answerPutHotkey s

/-- PUT_DESK_HALF (R173). -/
def execPutDeskHalf (r : Request) (s : State) : Host.Outcome State Fault Refusal :=
  runRequest 2 { r with table := 10 } answerPutDeskHalf s

/-- SWAP (R114). -/
def execSwap (r : Request) (s : State) : Host.Outcome State Fault Refusal := runRequest 4 r answerSwap s

/-- FENCE (R121). -/
def execFence (r : Request) (s : State) : Host.Outcome State Fault Refusal := runRequest 5 r answerFence s

/-- PRESET_STORE (R119). -/
def execPresetStore (r : Request) (s : State) : Host.Outcome State Fault Refusal := runRequest 6 r answerPresetStore s

/-- PRESET_LOAD (R120). -/
def execPresetLoad (r : Request) (s : State) : Host.Outcome State Fault Refusal := runRequest 7 r answerPresetLoad s

/-- CLEAR_EVENTS (R177). -/
def execClearEvents (r : Request) (s : State) : Host.Outcome State Fault Refusal := runRequest 8 r answerClearEvents s

/-- DESCRIBE (R174). -/
def execDescribe (r : Request) (s : State) : Host.Outcome State Fault Refusal := runRequest 9 r answerDescribe s

/-- NODE_RESET (R180). -/
def execNodeReset (r : Request) (s : State) : Host.Outcome State Fault Refusal := runRequest 10 r answerNodeReset s

/-- UNKNOWN_REQUEST (R168): a kind code outside 1..10. -/
def execUnknownRequest (kind : Byte) (r : Request) (s : State) : Host.Outcome State Fault Refusal :=
  .next (whenRunning (onlyIf (unknownKind kind) (requestEvent kind r (answerUnknown r))) s)

end Sys2Proof.Machine
end

