-- ==== Sys2Proof/Machine/SourceCells.lean ====
section
/-!
DEFINITION. The meanings of the source cells, of a forwarded management request, and of the source timers
(R21 to R23, R39 to R44, R47, R52, R53, R60 to R65).
-/

namespace Sys2Proof.Machine

/-- TILE (R21, R39, R63). -/
def execTile (origin dest : Addr) (t : TileCell) (s : State) : Host.Outcome State Fault Refusal :=
  let c : Cell := ⟨.tile, origin, dest, tilePayload t⟩
  .next (whenRunning (cellEvent .a c (sourceCell c fun i => takeFor i (storeTile i t))) s)

/-- FRAME_END (R21, R39, R65). -/
def execFrameEnd (origin dest : Addr) (f : FrameEndCell) (s : State) : Host.Outcome State Fault Refusal :=
  let c : Cell := ⟨.frameEnd, origin, dest, frameEndPayload f⟩
  .next (whenRunning (cellEvent .a c (sourceCell c fun i => takeFor i (storeFrameEnd i f))) s)

/-- CURSOR (R21, R39, R52). -/
def execCursor (origin dest : Addr) (k : CursorCell) (s : State) : Host.Outcome State Fault Refusal :=
  let c : Cell := ⟨.cursor, origin, dest, cursorPayload k⟩
  .next (whenRunning (cellEvent .a c (sourceCell c fun i => takeFor i (storeCursor i k))) s)

/-- SRC_STATUS (R21, R41 to R43). -/
def execSrcStatus (origin dest : Addr) (x : SrcStatusCell) (s : State) : Host.Outcome State Fault Refusal :=
  let c : Cell := ⟨.srcStatus, origin, dest, srcStatusPayload x⟩
  .next (whenRunning (cellEvent .a c (sourceCell c fun i => takeStatus i x)) s)

/-- MGMT_REQ_FORWARDED (R23): a request for neither this node nor all desks. -/
def execMgmtReqForwarded (origin dest : Addr) (payload : List Byte) (s : State) : Host.Outcome State Fault Refusal :=
  let c : Cell := ⟨.mgmtReq, origin, dest, payload⟩
  .next (whenRunning (onlyIf (dest != s.node.address && dest != allDesks) (cellEvent .a c (offerB c))) s)

/-- SILENCE_EXPIRY_STALE (R40): the slot is LIVE and its silence timer runs. -/
def execSilenceExpiryStale (i : Slot) (s : State) : Host.Outcome State Fault Refusal :=
  .next (whenRunning (fun s => match (s.src i).state, (s.src i).silenceTimer with
    | .live, some t => goStale i t s
    | _, _ => s) s)

/-- SILENCE_EXPIRY_LOST (R40, R53): the slot is STALE and its silence timer runs. After a TILE taken first the slot is LIVE, and the expiry
does not happen (DEDUCED 32: R40 against R71). -/
def execSilenceExpiryLost (i : Slot) (s : State) : Host.Outcome State Fault Refusal :=
  .next (whenRunning (fun s => match (s.src i).state, (s.src i).silenceTimer with
    | .stale, some t => goLost i t s
    | _, _ => s) s)

/-- STATUS_PERIOD_EXPIRY (R47): the slot's status period timer runs. -/
def execStatusPeriodExpiry (i : Slot) (s : State) : Host.Outcome State Fault Refusal :=
  .next (whenRunning (fun s => match (s.src i).statusTimer with
    | some t => statusExpiry i t s
    | none => s) s)

end Sys2Proof.Machine
end

