-- ==== Sys2Proof/Machine/Dispatch.lean ====
section
/-!
DEFINITION. The dispatch: one arm per command, each one direct call of its meaning.
-/

namespace Sys2Proof.Machine

def exec (i : Instr) (s : State) : Host.Outcome State Fault Refusal :=
  match i with
  | .powerOn straps => Sys2Proof.Machine.execPowerOn straps s
  | .resetLineAssert => Sys2Proof.Machine.execResetLineAssert s
  | .resetLineRelease straps => Sys2Proof.Machine.execResetLineRelease straps s
  | .linkUp p g => Sys2Proof.Machine.execLinkUp p g s
  | .linkDown p => Sys2Proof.Machine.execLinkDown p s
  | .framingOverrun p b => Sys2Proof.Machine.execFramingOverrun p b s
  | .qualityWindowEnd p => Sys2Proof.Machine.execQualityWindowEnd p s
  | .badCell p c e => Sys2Proof.Machine.execBadCell p c e s
  | .wrongDirectionCell c => Sys2Proof.Machine.execWrongDirectionCell c s
  | .tile o d t => Sys2Proof.Machine.execTile o d t s
  | .frameEnd o d f => Sys2Proof.Machine.execFrameEnd o d f s
  | .cursor o d k => Sys2Proof.Machine.execCursor o d k s
  | .srcStatus o d x => Sys2Proof.Machine.execSrcStatus o d x s
  | .mgmtReqForwarded o d l => Sys2Proof.Machine.execMgmtReqForwarded o d l s
  | .get r => Sys2Proof.Machine.execGet r s
  | .getSource r => Sys2Proof.Machine.execGetSource r s
  | .getClear r => Sys2Proof.Machine.execGetClear r s
  | .put r => Sys2Proof.Machine.execPut r s
  | .putNode r => Sys2Proof.Machine.execPutNode r s
  | .putSubscribe r => Sys2Proof.Machine.execPutSubscribe r s
  | .putForward r => Sys2Proof.Machine.execPutForward r s
  | .putScreen r => Sys2Proof.Machine.execPutScreen r s
  | .putLayout r => Sys2Proof.Machine.execPutLayout r s
  | .putRegionPending r => Sys2Proof.Machine.execPutRegionPending r s
  | .putHotkey r => Sys2Proof.Machine.execPutHotkey r s
  | .putDeskHalf r => Sys2Proof.Machine.execPutDeskHalf r s
  | .swap r => Sys2Proof.Machine.execSwap r s
  | .fence r => Sys2Proof.Machine.execFence r s
  | .presetStore r => Sys2Proof.Machine.execPresetStore r s
  | .presetLoad r => Sys2Proof.Machine.execPresetLoad r s
  | .clearEvents r => Sys2Proof.Machine.execClearEvents r s
  | .describe r => Sys2Proof.Machine.execDescribe r s
  | .nodeReset r => Sys2Proof.Machine.execNodeReset r s
  | .unknownRequest k r => Sys2Proof.Machine.execUnknownRequest k r s
  | .portBCell c => Sys2Proof.Machine.execPortBCell c s
  | .portABegin => Sys2Proof.Machine.execPortABegin s
  | .fenceAnswerDeferred => Sys2Proof.Machine.execFenceAnswerDeferred s
  | .portBBegin => Sys2Proof.Machine.execPortBBegin s
  | .txComplete p order => Sys2Proof.Machine.execTxComplete p order s
  | .eventHoldoffEnd => Sys2Proof.Machine.execEventHoldoffEnd s
  | .silenceExpiryStale n => Sys2Proof.Machine.execSilenceExpiryStale n s
  | .silenceExpiryLost n => Sys2Proof.Machine.execSilenceExpiryLost n s
  | .statusPeriodExpiry n => Sys2Proof.Machine.execStatusPeriodExpiry n s
  | .verticalStart d => Sys2Proof.Machine.execVerticalStart d s
  | .deskPointerReport b dx dy w => Sys2Proof.Machine.execDeskPointerReport b dx dy w s
  | .deskKeyboardReport m ks => Sys2Proof.Machine.execDeskKeyboardReport m ks s
  | .lampMessageBegin => Sys2Proof.Machine.execLampMessageBegin s
  | .lampMessageComplete => Sys2Proof.Machine.execLampMessageComplete s
  | .acquisitionCodeGroup p g => Sys2Proof.Machine.execAcquisitionCodeGroup p g s
  | .upCodeGroup p g => Sys2Proof.Machine.execUpCodeGroup p g s

end Sys2Proof.Machine
end

