-- ==== Sys2Proof/Machine/Compositor.lean ====
section
/-!
DEFINITION. The Compositor: the colour of each desk pixel at its scan-out, as a function of the state it is composed from (R89, R91,
R94 to R104, R107 to R110). No row of spec/opcode_table.json is the scan-out of a pixel: it changes no state, and it shows the
state before or after each command, never one in between (R184).
-/

namespace Sys2Proof.Machine

def Colour.white : Colour := ⟨255, 255, 255⟩

/-- The amber of a STALE source's frame (R104). -/
def Colour.amber : Colour := ⟨255, 160, 0⟩

/-- The complement of a colour (R108). -/
def Colour.invert (c : Colour) : Colour := ⟨255 - c.r, 255 - c.g, 255 - c.b⟩

/-- R96, R104: within 4 pixels of a region's edge. -/
def Region.nearEdge (r : Region) (a b : Nat) : Bool := a < 4 || r.w ≤ a + 4 || b < 4 || r.h ≤ b + 4

/-! ### Samples (R100 to R102) -/

/-- The pixel of the image memory at a position of the image slot (R64, R100). -/
def State.imagePixel (s : State) (x : ImageIx) (u v : Nat) : Colour :=
  (memRead s.imageMem (tileAddress x (u / 16) (v / 16))).get (Fin.ofNat 256 (v % 16 * 16 + u % 16))

/-- R100: a sample at a source position: the image's pixel under a present stamp, the fill colour under an absent one. -/
def State.sample (s : State) (x : ImageIx) (t : Tracking) (fill : Colour) (u v : Nat) : Colour :=
  if (storeGet t.stamps (v / 16 * (t.width / 16) + u / 16)).isSome then s.imagePixel x u v else fill

/-- The samples of a block of side `n`, each past the edge taken from the nearest position within the screen (R101, R102). -/
def State.block (s : State) (x : ImageIx) (t : Tracking) (fill : Colour) (n u v : Nat) : List Colour :=
  (List.range n).flatMap fun j => (List.range n).map fun i =>
    s.sample x t fill (min (u + i) (t.width - 1)) (min (v + j) (t.height - 1))

/-- R101: the mean of one component, halves rounded up. -/
def meanOf (l : List Nat) : Byte := BitVec.ofNat 8 ((l.sum + l.length / 2) / l.length)

/-- R101: the mean of a block, component by component. -/
def blockMean (l : List Colour) : Colour :=
  ⟨meanOf (l.map fun c => c.r.toNat), meanOf (l.map fun c => c.g.toNat), meanOf (l.map fun c => c.b.toNat)⟩

/-- R99 to R103: what a region shows of its source image at local offsets. -/
def State.sourceValue (s : State) (x : ImageIx) (t : Tracking) (p : SourcePart) (fill : Colour) (a b : Nat) : Colour :=
  let u := mapOffset p.u0 p.z a
  let v := mapOffset p.v0 p.z b
  if t.width ≤ u ∨ t.height ≤ v then fill
  else if 1 ≤ p.z then blockMean (s.block x t fill (2 ^ p.z.toNat) u v)
  else s.sample x t fill u v

/-- R98, R104: what the first region containing a pixel shows there. -/
def State.regionValue (s : State) (r : Region) (a b : Nat) : Colour :=
  match r.source with
  | none => r.fill
  | some p =>
    match s.admittedImage p.slot p.screen with
    | none => r.fill
    | some x =>
      match s.image x with
      | none => r.fill
      | some t =>
        if (s.src p.slot).state == .stale && r.nearEdge a b then Colour.amber
        else s.sourceValue x t p r.fill a b

/-- R98: the region composition of a pixel. -/
def State.composed (s : State) (d : Desk) (px py : Nat) : Colour :=
  match s.regionAt d px py with
  | none => s.node.background
  | some r => s.regionValue r (px - r.x) (py - r.y)

/-- R96: the identification picture of a pixel. -/
def State.identified (s : State) (d : Desk) (px py : Nat) : Colour :=
  match s.regionAt d px py with
  | none => s.node.background
  | some r => if r.nearEdge (px - r.x) (py - r.y) then Colour.white else r.fill

/-! ### The cursor overlay (R107 to R110) -/

/-- The codes of an overlay pixel (R108). -/
inductive CursorCode where
  | transparent | a | b | invert
deriving DecidableEq, Repr

/-- The code of two bits (R15). -/
def cursorCode (w : BitVec 2) : CursorCode :=
  match w.toNat with
  | 0 => .transparent
  | 1 => .a
  | 2 => .b
  | _ => .invert

/-- The code of pixel (i, j) of a cursor image: row-major, four a byte, the first in the two highest bits (R15). -/
def codeAt (image : Vector Byte 256) (i j : Nat) : CursorCode :=
  let n := j * 32 + i
  cursorCode (((image.get (Fin.ofNat 256 (n / 4))).extractLsb' (6 - 2 * (n % 4)) 2))

/-- R109: the built-in arrow. -/
def arrowCode (i j : Nat) : CursorCode :=
  if 15 < j ∨ j < i then .transparent else if i = 0 ∨ i = j ∨ j = 15 then .b else .a

/-- The shape of the overlay: its hotspot, its two colours and the codes it is drawn by, or nothing when the record is hidden
(R107 to R109). -/
structure Overlay where
  hotX : Nat
  hotY : Nat
  colourA : Colour
  colourB : Colour
  record : Option (Vector Byte 256)
deriving DecidableEq, Repr

/-- The built-in arrow as an overlay (R109). -/
def arrowOverlay : Overlay := ⟨0, 0, Colour.white, Colour.black, none⟩

/-- R107 to R109: the overlay's shape, from the input slot's cursor record; none when that record is hidden. -/
def State.overlay (s : State) : Option Overlay :=
  match s.inputSlot.bind fun i => (s.src i).cursor with
  | none => some arrowOverlay
  | some k => if k.hidden then none else some ⟨k.hotX, k.hotY, k.colourA, k.colourB, some k.image⟩

/-- The code of the overlay at its pixel (i, j). -/
def Overlay.code (o : Overlay) (i j : Nat) : CursorCode :=
  match o.record with
  | none => arrowCode i j
  | some image => codeAt image i j

/-- R108: an overlay pixel drawn over the value beneath it. -/
def Overlay.draw (o : Overlay) (k : CursorCode) (beneath : Colour) : Colour :=
  match k with
  | .transparent => beneath
  | .a => o.colourA
  | .b => o.colourB
  | .invert => Colour.invert beneath

/-- R107: a desk pixel with the overlay, which covers it when its overlay pixel lies in the 32 by 32 image. -/
def State.overlaid (s : State) (d : Desk) (px py : Nat) (beneath : Colour) : Colour :=
  if s.pointer.screen = some d then
    match s.overlay with
    | none => beneath
    | some o =>
      let i := px + o.hotX
      let j := py + o.hotY
      if s.pointer.px ≤ i ∧ i < s.pointer.px + 32 ∧ s.pointer.py ≤ j ∧ j < s.pointer.py + 32 then
        o.draw (o.code (i - s.pointer.px) (j - s.pointer.py)) beneath
      else beneath
  else beneath

/-- R89, R95: the colour of desk pixel (px, py) of a screen, or none where no picture is sent: the screen is disabled, the pixel is
not on it, or the reset line is asserted (R179). -/
def State.pixel (s : State) (d : Desk) (px py : Nat) : Option Colour :=
  let e := s.screen d
  if s.resetLine ∨ ¬ e.enabled ∨ e.width ≤ px ∨ e.height ≤ py then none
  else if e.identify then some (s.identified d px py)
  else if e.blank then some s.node.background
  else some (s.overlaid d px py (s.composed d px py))

/-! ### Scan-out (R91) -/

/-- R91: the pixels (x, y) of a picture in the order they are scanned: row by row from row 0, and within each row from x = 0. -/
def scanOrder (width height : Nat) : List (Nat × Nat) :=
  (List.range height).flatMap fun y => (List.range width).map fun x => (x, y)

/-- R91: what the picture of a screen that begins at `s` shows, pixel by pixel in scan order. `moments` holds the state at each pixel's
scan-out moment, oldest first; each pixel is composed from the state at its own. A picture that ends unfinished (R90) has fewer moments
than pixels and shows no more of them. -/
def State.scannedPicture (s : State) (d : Desk) (moments : List State) : List ((Nat × Nat) × Option Colour) :=
  (scanOrder (s.screen d).width (s.screen d).height).zipWith (fun p t => (p, t.pixel d p.1 p.2)) moments

end Sys2Proof.Machine
end

