-- ==== Sys2Proof/WellFormed.lean ====
section
/-!
DEFINITION. The well-formed commands: the operands that the row's event can bring. A meaning runs on any operands; what is ill-formed
is a command that the row cannot be (a data group that is not valid as the last of an acquisition, a request whose kind code is
one of the ten as an unknown one, a payload whose length R6 refuses).
-/

namespace Sys2Proof

/-- A 16-bit signed number of a desk pointer report (R127). -/
def reportRange (x : Int) : Bool := -32768 ≤ x && x ≤ 32767

/-- A request's data is at most 1016 bytes (R17). -/
def Request.fits (r : Request) : Bool := r.data.length ≤ 1016

/-- A PUT of one table's entries: its table code, and header checks that pass (R169). -/
def Request.puts (code : Byte) (r : Request) : Bool := r.fits && r.table == code && putHeaderPasses r

/-- The well-formed commands. -/
def Instr.wellFormed : Instr → Bool
  | .linkUp _ g => g != .invalid
  | .badCell _ c e => c.bytes.length ≤ 1035 && (firstFailure c e).isSome
  | .wrongDirectionCell c => !c.kind.isDown && sizeFits c.kind c.payload
  | .mgmtReqForwarded _ d l => d != allDesks && sizeFits .mgmtReq l
  | .get r => r.fits && r.table != 11
  | .getSource r => r.fits && r.table == 11
  | .put r => r.fits && !putHeaderPasses r
  | .putNode r => r.puts 1
  | .putSubscribe r => r.puts 2
  | .putForward r => r.puts 3
  | .putScreen r => r.puts 4
  | .putLayout r => r.puts 5
  | .putRegionPending r => r.puts 6
  | .putHotkey r => r.puts 9
  | .putDeskHalf r => r.puts 10
  | .getClear r | .swap r | .fence r | .presetStore r | .presetLoad r | .clearEvents r | .describe r | .nodeReset r => r.fits
  | .unknownRequest k r => r.fits && (k == 0 || 10 < k.toNat)
  | .portBCell c => sizeFits c.kind c.payload
  | .deskPointerReport _ dx dy wheel => reportRange dx && reportRange dy && reportRange wheel
  | .powerOn _ | .resetLineAssert | .resetLineRelease _ | .linkDown _ | .framingOverrun _ _ | .qualityWindowEnd _
  | .tile _ _ _ | .frameEnd _ _ _ | .cursor _ _ _ | .srcStatus _ _ _ | .portABegin | .fenceAnswerDeferred | .portBBegin
  | .txComplete _ _ | .eventHoldoffEnd | .silenceExpiryStale _ | .silenceExpiryLost _ | .statusPeriodExpiry _
  | .verticalStart _ | .deskKeyboardReport _ _ | .lampMessageBegin | .lampMessageComplete | .acquisitionCodeGroup _ _
  | .upCodeGroup _ _ => true

end Sys2Proof
end

