-- ==== Sys2Proof/Safety.lean ====
section
/-!
DEFINITION. What counts as a safe state and a safe step of the node: the numbered Laws of the manual as predicates on a state or on a
step, and the words in which the statements speak of a command's arrival, of what it counts and of what a restart leaves.
-/

namespace Sys2Proof.Machine

/-! ### The Laws as invariants -/

/-- Law 12, second half (R175): no counter stands above 4,294,967,295. -/
def CountersCapped (s : State) : Prop := ∀ c, s.counter c ≤ counterTop

/-- Law 1 for one list (R93): at most 16 regions, no id twice. -/
def GoodList (l : List Region) : Prop := l.length ≤ 16 ∧ (l.map Region.id).Nodup

/-- Law 1 (R93): every region list, active or pending and in presets. -/
def Law1 (s : State) : Prop :=
  (∀ d, GoodList (s.active d)) ∧ (∀ d, GoodList (s.pendingList d)) ∧
    ∀ n p, s.presets.get n = some p → ∀ d, GoodList (p.get d)

/-- Law 2 (R48), with R38's "an entry is present only in a LIVE or STALE slot": an image slot in use belongs to the one ADMITTED screen
entry that names it, and an ADMITTED entry names an image slot in use by it. The last part holds while the reset line is not
asserted: at its assertion the image slots are free at once, and the Source Table takes its values at the release (R179). -/
def Law2 (s : State) : Prop :=
  (∀ i k, s.heard i = false → s.entry i k = none) ∧
    (∀ x t, s.image x = some t → ∃ e, s.entry t.owner t.screen = some e ∧ e.admission = .admitted x) ∧
    (s.resetLine = false → ∀ i k e x, s.entry i k = some e → e.admission = .admitted x →
      ∃ t, s.image x = some t ∧ t.owner = i ∧ t.screen = k)

/-- Two runs of tiles have no tile in common. -/
def RefreshEntry.disjoint (a b : RefreshEntry) : Prop := ∀ j, ¬(a.covers j = true ∧ b.covers j = true)

/-- Law 3 for one screen (R75), with the ranges of an entry's fields and of the scan cursor, and a grid of R57's least size. -/
def GoodRefresh (t : Tracking) : Prop :=
  256 ≤ t.tiles ∧ t.cursor < t.tiles ∧ t.entries.length ≤ 4 ∧ t.entries.Pairwise RefreshEntry.disjoint ∧
    ∀ e ∈ t.entries, 1 ≤ e.remaining ∧ e.remaining ≤ e.count ∧ e.first + e.count ≤ t.tiles

/-- Law 3 (R75): no two outstanding entries of a screen cover a common tile, at most 4 of them, each remaining count from 1 to its
count. -/
def Law3 (s : State) : Prop := ∀ x t, s.image x = some t → GoodRefresh t

/-- Where the scan stands in its period of 2 × (tiles − 1) examinations, counted from tile 0 going UP (R83). -/
def Tracking.place (t : Tracking) : Nat :=
  match t.dir with
  | .up => t.cursor
  | .down => 2 * (t.tiles - 1) - t.cursor

/-- How many examinations come before the next one of a tile: the period passes a tile going UP and going DOWN (R83). -/
def Tracking.waits (t : Tracking) (j : Nat) : Nat :=
  let period := 2 * (t.tiles - 1)
  let ahead (place : Nat) : Nat := (place + period - t.place % period) % period
  min (ahead j) (ahead (period - j))

/-- The derivation of the stamp age bound: an advance brings 64 examinations for each frame, so while a stamp above the ceiling's age waits
for the ceiling, its frames above that age and the examinations still to come stay together below the period of the scan. -/
def GoodStamps (t : Tracking) : Prop :=
  t.tiles ≤ 32400 ∧ ∀ j p, t.stamp j = some p → j < t.tiles ∧
    ∃ c, t.current = some c ∧ 64 * ((c - p).toNat - 30000) + t.waits j < 2 * (t.tiles - 1)

/-- The stamp age bound of every screen with an image slot. -/
def StampsAge (s : State) : Prop := ∀ x t, s.image x = some t → GoodStamps t

/-- Law 4: every present stamp lies 0 to 31,013 frames behind its screen's current frame. -/
def Law4 (s : State) : Prop :=
  ∀ x t j p, s.image x = some t → t.stamp j = some p → ∃ c, t.current = some c ∧ (c - p).toNat ≤ 31013

/-- Law 5 (R142): the coordinates that wait to be sent, and those a capture would repeat, lie in 0..32767. -/
def Law5 (s : State) : Prop :=
  (∀ i k ax ay b w, HidEntry.pointer i k ax ay b w ∈ s.hidQueue → ax ≤ 32767 ∧ ay ≤ 32767) ∧
    ∀ c, s.pointer.capture = some c → c.ax ≤ 32767 ∧ c.ay ≤ 32767

/-- A desk screen's settings lie in their ranges (R89). -/
def ScreenSettings.inRange (e : ScreenSettings) : Prop :=
  1280 ≤ e.width ∧ e.width ≤ 3840 ∧ 720 ≤ e.height ∧ e.height ≤ 2160 ∧ 24 ≤ e.rate ∧ e.rate ≤ 120 ∧
    e.width % 8 = 0 ∧ e.height % 8 = 0 ∧ e.picture.isSome = e.enabled

/-- R89: every desk screen's settings lie in their ranges, and exactly the enabled screens have a picture in progress. -/
def ScreensInRange (s : State) : Prop := ∀ d, (s.screen d).inRange

/-- Law 6 (R131), with R125's word on the pointer: it stands on an enabled screen, or it is absent with no screen enabled; while a
capture is in force it stands on the capture's screen, in the rectangle of the region with the capture's id. -/
def Law6 (s : State) : Prop :=
  (s.pointer.screen = none → (∀ d, (s.screen d).enabled = false) ∧ s.pointer.capture = none) ∧
    (∀ d, s.pointer.screen = some d →
      (s.screen d).enabled = true ∧ s.pointer.px < (s.screen d).width ∧ s.pointer.py < (s.screen d).height) ∧
    ∀ c, s.pointer.capture = some c → s.pointer.screen = some c.screen ∧
      ∃ r, s.regionById c.screen c.id = some r ∧ r.contains s.pointer.px s.pointer.py = true

/-- Law 7 (R150), with R146's word on the key lists: at most six keys, no code twice in a list, every swallowed or forwarded key held,
none both, and no forwarded key without a focus. -/
def Law7 (s : State) : Prop :=
  (s.keyboard.focus = none → s.keyboard.forwarded = []) ∧
    (∀ c ∈ s.keyboard.forwarded, c ∈ s.keyboard.keys ∧ c ∉ s.keyboard.swallowed) ∧
    (∀ c ∈ s.keyboard.swallowed, c ∈ s.keyboard.keys) ∧
    s.keyboard.keys.Nodup ∧ s.keyboard.forwarded.Nodup ∧ s.keyboard.swallowed.Nodup ∧ s.keyboard.keys.length ≤ 6

/-- Law 8 (R27): at most one unsent keyboard entry for each slot, and at most 24 pointer entries. -/
def Law8 (s : State) : Prop :=
  (∀ i, s.hidQueue.countP (HidEntry.isKeyOf i) ≤ 1) ∧ s.hidQueue.countP HidEntry.isPointer ≤ 24

/-- The fence list between steps (R122), with R114's word that a disabled screen has no swap pending: a swap that a fence still awaits is
still pending, and on an enabled screen. With `FencesWait`, which says what a step may do to the list, it is Law 10. -/
def Law10 (s : State) : Prop :=
  (∀ f ∈ s.fences, ∀ d : Desk, f.awaited.getLsbD d.val = true → s.swapWaits d = true) ∧
    ∀ d, s.swapWaits d = true → (s.screen d).enabled = true

/-- Law 11 (R162): the lamp state is the focus's lamp set, or all off. -/
def Law11 (s : State) : Prop := s.keyboard.lamps = s.lampsFor s.keyboard.focus

/-- The capacities of the queues between blocks (R24, R26, R121, R167). -/
def QueuesBounded (s : State) : Prop :=
  s.portBQueue.length ≤ 32 ∧ s.uplinkQueue.length ≤ 16 ∧ s.fences.length ≤ 4 ∧ s.responses.length ≤ 8

/-- The image memory is in its canonical form. -/
def ImageMemoryWf (s : State) : Prop := Memory.wf s.imageMem = true

/-- R122: a fence that nothing is left to await for stays in the list only while the response queue is full. -/
def FencesSettled (s : State) : Prop := (∀ f ∈ s.fences, f.awaited ≠ 0) ∨ 8 ≤ s.responses.length

/-- R38, R19: a slot has a link address, 1..4094 and no other slot's, exactly when it is not ABSENT; its timers run exactly while it is
LIVE or STALE; only then may it be due or hold a cursor record. -/
def SourceTableWf (s : State) : Prop :=
  (∀ i, (s.src i).addr = none ↔ (s.src i).state = .absent) ∧
    (∀ i a, (s.src i).addr = some a → a ≠ 0 ∧ a ≠ 4095) ∧
    (∀ i j a, (s.src i).addr = some a → (s.src j).addr = some a → i = j) ∧
    (∀ i, (s.src i).silenceTimer.isSome = s.heard i ∧ (s.src i).statusTimer.isSome = s.heard i) ∧
    ∀ i, ((s.src i).due = true ∨ (s.src i).cursor ≠ none) → s.heard i = true

/-- The ranges of the NODE table (R170). -/
def NodeInRange (s : State) : Prop :=
  s.node.address ≠ 0 ∧ s.node.address ≠ 4095 ∧ 1 ≤ s.node.qualityHigh ∧ s.node.qualityHigh ≤ 255 ∧
    s.node.qualityLow ≤ s.node.qualityHigh ∧ 60 ≤ s.node.ageLimit ∧ s.node.ageLimit ≤ 4096 ∧ s.node.speed ≤ 15

/-- R125: the residues lie in -15..15, and every swallowed button is held. -/
def SteeringWf (s : State) : Prop :=
  (-15 ≤ s.pointer.residueX ∧ s.pointer.residueX ≤ 15) ∧ (-15 ≤ s.pointer.residueY ∧ s.pointer.residueY ≤ 15) ∧
    s.pointer.swallowed &&& ~~~s.pointer.buttons = 0

/-- R132, R136, R138: the target is the first region that holds the pointer; the POINTER flag stands in the slot of a routable target
alone, the CAPTURE flag in the slot of the capture in force alone (DEDUCED 30), and that slot is LIVE or STALE. -/
def SteeringSettled (s : State) : Prop :=
  s.pointer.target = (s.pointer.screen.bind fun d => (s.regionAt d s.pointer.px s.pointer.py).map fun r => (d, r.id)) ∧
    (∀ i, s.halfFlag i .pointer = true ↔ ∃ q, s.routableTarget = some q ∧ q.2.slot = i) ∧
    (∀ i, s.halfFlag i .capture = true ↔ ∃ c, s.pointer.capture = some c ∧ c.slot = i) ∧
    ∀ c, s.pointer.capture = some c → s.heard c.slot = true

/-- R152, R155: the FOCUS flag stands in the focus slot alone, the focus is LIVE or STALE, and the lock is never set without a focus. -/
def FocusWf (s : State) : Prop :=
  (∀ i, s.halfFlag i .focus = true ↔ s.keyboard.focus = some i) ∧ (∀ i, s.keyboard.focus = some i → s.heard i = true) ∧
    (s.keyboard.lock = true → s.keyboard.focus ≠ none)

/-- R46, R118: word 0 of every desk half is the node address, and the VIEWING flags agree with the active lists. -/
def DeskHalvesWf (s : State) : Prop :=
  ∀ i, (s.src i).deskHalf.get 0 = s.node.address.setWidth 16 ∧
    (s.halfFlag i .viewing = true ↔ ∃ d r p, r ∈ s.active d ∧ r.source = some p ∧ p.slot = i)

/-! ### Safe steps -/

/-- Whether the cell in flight on Port A is the answer to a NODE_RESET (R180). -/
def State.resetInFlight (s : State) : Bool :=
  match s.portA.tx with
  | some ⟨_, .response true⟩ => true
  | _ => false

/-- The commands whose effect can hold a reset: power-on, the release of the reset line, and the completion or abort of a NODE_RESET
response (R179, R180). -/
def mayReset (i : Instr) (s : State) : Bool :=
  match i with
  | .powerOn _ | .resetLineRelease _ => true
  | .txComplete .a _ | .linkDown .a => s.resetInFlight
  | _ => false

/-- The commands whose effect can hold a reset or a GET_CLEAR of COUNTERS (Law 12, R175). -/
def mayClearCounters (i : Instr) (s : State) : Bool :=
  match i with
  | .getClear _ => true
  | _ => mayReset i s

/-- Law 10 over a step (R122): a screen leaves the awaited sets only where its pending swap is pending no more, and a fence leaves the list,
which is when it is answered, only with nothing left to await. The fences that stay keep their order, and a new one joins the end. -/
def FencesWait (s t : State) : Prop :=
  ∃ (taken : BitVec 4) (kept new : List FenceEntry),
    let held := s.fences.map fun f => { f with awaited := f.awaited &&& ~~~taken }
    (∀ d : Desk, taken.getLsbD d.val = true → s.swapWaits d = true ∧ t.swapWaits d = false) ∧
      t.fences = kept ++ new ∧ new.length ≤ 1 ∧ kept.Sublist held ∧
      kept.filter (fun f => f.awaited != 0) = held.filter fun f => f.awaited != 0

/-- Law 12, first half: no counter has decreased. -/
def NoCounterFell (s t : State) : Prop := ∀ c, s.counter c ≤ t.counter c

/-! ### The words of the statements -/

/-- A valid cell can end on a port now: the node runs, the port is UP, and it has no cell or exactly this one in reception. -/
def Arrives (s : State) (p : Port) (c : Cell) : Prop :=
  s.resetLine = false ∧ (s.port p).link = .up ∧
    ((s.port p).rx = none ∨ (s.port p).rx = some ⟨cellBytes c, false⟩)

/-- The counters after an event that counts each counter as often as it stands in the list (R175). -/
def Tallied (l : List Counter) (s t : State) : Prop := ∀ c, t.counter c = min counterTop (s.counter c + l.count c)

/-- The flags after an event that sets each of these (R176): an EVENT cell becomes pending when one of them was clear and is
enabled. -/
def Flagged (l : List Flag) (s t : State) : Prop :=
  (∀ f, t.flagged f = (s.flagged f || l.contains f)) ∧
    t.eventPending = (s.eventPending || l.any fun f => !s.flagged f && s.node.enable.getLsbD f.bit)

/-- A source cell once it has ended on Port A and a copy has been offered to Port B if its origin is in the Forward Set
(R8, R9, R21). -/
def handedOn (c : Cell) (s : State) : State :=
  if s.forwards c.origin then offerB c (goodCell .a s) else goodCell .a s

/-- A source cell ends on Port A and its origin is the link address of this slot, and of no other (R19, R21). -/
def Takes (s : State) (i : Slot) (c : Cell) : Prop :=
  Arrives s .a c ∧ ∀ j, (s.src j).addr = some c.origin ↔ j = i

/-- A slot whose cell is accepted: LIVE, its last accepted time now, its silence timer restarted (R39). -/
def hear (i : Slot) (s : State) : State :=
  setSrc i { s.src i with state := .live, lastAccepted := some s.now, silenceTimer := some s.now } s

/-- What a cell of a slot leaves: its work `u`, re-evaluated when the cell has brought a STALE slot back to LIVE and the target or the
capture belongs to the slot (R39, R55). -/
def returned (i : Slot) (s u : State) : State :=
  if (s.src i).state = .stale ∧ s.steersTo i = true then reevaluate u else u

/-- Steps 1 to 7 of R53 on what lies around the slot's own record, before the report of R55; `lost` says whether SOURCE_LOST is set and
counted, as at a loss (R53 step 8) and not at a teardown (R54). A capture of the slot breaks without a buttons-up entry, and its focus ends
without a release entry, with the lock clear and the lamps off (R154, R162). -/
def GivenUp (i : Slot) (lost : Bool) (s u : State) : Prop :=
  let k := s.keyboard
  let captured := s.pointer.capture.map Capture.slot = some i
  let focused := k.focus = some i
  (∀ j, j ≠ i → u.src j = s.src j) ∧
    (∀ n : Fin 8, n ≠ 1 → (u.src i).deskHalf.get n = (s.src i).deskHalf.get n) ∧
    (∀ f, u.halfFlag i f = if f = .focus ∧ focused then false else s.halfFlag i f) ∧
    (∀ m v, s.image m = some v → u.image m = if v.owner = i then none else some v) ∧
    (∀ m, s.image m = none → u.image m = none) ∧
    u.hidQueue = s.hidQueue.filter (fun e => e.slot != i) ∧
    u.pointer = (if captured then { s.pointer with
      capture := none, swallowed := s.pointer.swallowed ||| s.pointer.buttons, residueX := 0, residueY := 0 } else s.pointer) ∧
    u.keyboard = (if focused then { k with
      swallowed := k.swallowed ++ k.keys.filter (fun c => c ∉ k.swallowed), forwarded := [], focus := none, lock := false, lamps := 0 }
      else k) ∧
    (CountersCapped s → Tallied (List.replicate (s.hidQueue.countP fun e => e.slot == i) .hidPurged ++
      (if captured then [.psCaptureBroken] else []) ++ (if focused then [.ksFocusChanges] else []) ++
      if lost then [.srcLost] else []) s u) ∧
    Flagged ((if focused then [.focusChanged] else []) ++ if lost then [.sourceLost] else []) s u ∧
    u = { s with
      sources := u.sources, images := u.images, hidQueue := u.hidQueue, pointer := u.pointer, keyboard := u.keyboard
      counters := u.counters, events := u.events, eventPending := u.eventPending }

/-- A cell with this screen byte concerns an admitted screen of the slot, with this image slot and record (R60). -/
def AdmittedScreen (s : State) (i : Slot) (b : Byte) (x : ImageIx) (t : Tracking) : Prop :=
  ∃ (k : SrcScreen) (e : ScreenEntry), b.toNat = k.val ∧ s.heard i = true ∧ s.entry i k = some e ∧ e.admission = .admitted x ∧
    s.image x = some t

/-- A request's cell once it has ended on Port A and, if it was sent to all desks, a copy has been offered to Port B (R23). -/
def heardRequest (kind : Byte) (r : Request) (s : State) : State :=
  if r.toAll then offerB (requestCell s.node.address kind r) (goodCell .a s) else goodCell .a s

/-- A request that is executed, before its own work: counted, and its origin the controller address (R166). -/
def accepted (kind : Byte) (r : Request) (s : State) : State :=
  { bump .mgRequests (heardRequest kind r s) with controller := r.origin }

/-- A request is taken and executed (R23, R166): its cell ends on Port A, no reset is awaited, and the response queue has room. -/
def Executes (s : State) (kind : Byte) (r : Request) : Prop :=
  Arrives s .a (requestCell s.node.address kind r) ∧ s.resetPending = false ∧ s.responses.length < 8

/-- The response a request is answered with (R166, R167). -/
def answerOf (r : Request) (st : Status) (data : List Byte) : Response := ⟨r.tag, st, data, r.origin, false⟩

/-- The state with an OK or CLAMPED response behind the others: nothing else changes (R167). -/
def withAnswer (r : Request) (st : Status) (data : List Byte) (s : State) : State :=
  { s with responses := s.responses ++ [answerOf r st data] }

/-- The state with a refusal behind the other responses: it carries no data and counts in MG_REFUSED (R167). -/
def withRefusal (r : Request) (st : Status) (s : State) : State :=
  { bump .mgRefused s with responses := s.responses ++ [answerOf r st []] }

/-- A PUT whose entries are refused or written is executed and passes the header checks (R169). -/
def WriteArrives (s : State) (code : Byte) (t : Table) (r : Request) : Prop :=
  r.table = code ∧ Executes s 2 r ∧ inRange t r = true ∧ dataFits t r = true

/-- What every kind of reset leaves, in the values of the manual's tables: R19, R20, R24 to R27 (lookup tables and queues), R38 and R46
(sources), R48 (image slots), R76, R89, R93, R111, R119, R121 (screens and views), R125, R126 (pointer), R146 (keyboard), R163 (lamp
messages), R166, R167, R170, R175, R176 (management). -/
def Restarted (node : Addr) (t : State) : Prop :=
  (∀ i, (t.src i).addr = none ∧ (t.src i).state = .absent ∧ (t.src i).lastAccepted = none ∧ (t.src i).half = none ∧
    (t.src i).changed = false ∧ (t.src i).overrun = false ∧ (t.src i).lamps = 0 ∧ (t.src i).screenCount = 0 ∧
    (∀ k, t.entry i k = none) ∧ (t.src i).cursor = none ∧ (t.src i).due = false ∧ (t.src i).silenceTimer = none ∧
    (t.src i).statusTimer = none ∧ (t.src i).deskHalf.toList = [node.setWidth 16, 0, 0, 0, 0, 0, 0, 0]) ∧
  (∀ n, t.forwardSet.get n = 0) ∧ t.portBQueue = [] ∧ t.uplinkQueue = [] ∧ t.hidQueue = [] ∧
  (∀ x, t.image x = none) ∧ t.creation = 0 ∧
  (∀ d, t.screen d = ⟨false, 1920, 1080, 60, true, false, none⟩ ∧ t.active d = [] ∧ t.pendingList d = [] ∧
    t.swapWaits d = false ∧ t.layout.get d = ⟨⟨none, 0⟩, ⟨none, 0⟩, ⟨none, 0⟩, ⟨none, 0⟩⟩) ∧
  (∀ n, t.presets.get n = none) ∧ t.fences = [] ∧
  t.pointer = ⟨none, 0, 0, 0, 0, 0, 0, none, none⟩ ∧
  (t.keyboard.modifiers = 0 ∧ t.keyboard.keys = [] ∧ t.keyboard.swallowed = [] ∧ t.keyboard.forwarded = [] ∧
    t.keyboard.focus = none ∧ t.keyboard.lock = false ∧ (∀ n, t.keyboard.hotkeys.get n = ⟨false, 0, 0, 0, 0⟩) ∧
    t.keyboard.lamps = 0) ∧
  t.lampMessage = none ∧ t.lampSent = none ∧
  t.node = ⟨node, false, 16, 2, 600, 6, 0b1001, ⟨0, 0, 0⟩⟩ ∧
  t.responses = [] ∧ t.controller = 0 ∧ t.resetPending = false ∧ t.events = 1 ∧ t.eventPending = true ∧
  ∀ c, t.counter c = 0

end Sys2Proof.Machine
end

