-- ==== Sys2Proof/Certificates/Slice0/Obligations.lean ====
section
/-!
DEFINITION. The statements for the provers, each a `def Obligations.<Name> : Prop`. Every command has a statement whose conclusion is its
next state; a frame is said by a record equation, in which a field that is not named is unchanged.
-/

open Sys2Proof Sys2Proof.Machine

/-! ### The step, and the commands together -/

/-- A step runs the command at the front of the queue on the state with the queue's rest. On an empty queue a millisecond passes: that
clause is the model's choice (DESIGN CHOICE 4). -/
def Obligations.StepRunsTheFrontCommand : Prop :=
  (∀ (c : Instr) (rest : List Instr) (s : State), step { s with pending := c :: rest } = exec c { s with pending := rest }) ∧
    ∀ s : State, s.pending = [] → step s = .next { s with now := s.now + 1000 }

/-- Every command completes in every state, with no fault and no refusal, and leaves the queue of commands to the step. That a command whose
event cannot occur in the state answers a next state, the state as it stood, is the model's choice (DESIGN CHOICE 5). -/
def Obligations.EveryCommandCompletes : Prop :=
  ∀ (i : Instr) (s : State), ∃ t, exec i s = .next t ∧ t.pending = s.pending

/-! ### Resets -/

/-- R4, R12, R33, R36, R178, R179: power-on and the reset line. Power-on gives every block its values, reads the straps into the node address, and
sets the cause record. The assertion of the reset line holds both ports DOWN, cuts off the cells in flight uncounted, empties every class
of the arbiter and discards an awaited node reset; while it is asserted no command but power-on and the line's own has any effect; its
release gives every block its values, reads the straps, and keeps the holdoff record. What the assertion itself leaves of the other blocks
is the model's reading (DEDUCED 20), and that a power-on ends an assertion is its choice (DESIGN CHOICE 36). -/
def Obligations.ResetsRestart : Prop :=
  (∀ (straps : BitVec 12) (s : State), ∃ t, exec (.powerOn straps) s = .next t ∧
    Restarted (if straps = 0 ∨ straps = 4095 then 4094 else straps) t ∧
    t.portA = ⟨.down, 0, 0, none, .good, 0, 0, none⟩ ∧ t.portB = ⟨.down, 0, 0, none, .good, 0, 0, none⟩ ∧
    t.lastServed = .forwarded ∧ t.lastEventBegan = none ∧ t.resetLine = false ∧
    t.cause = (if straps = 0 ∨ straps = 4095 then 0b1001 else 0b0001)) ∧
  ((∀ s : State, ∃ t, exec .resetLineAssert s = .next t ∧
    t = { s with
      resetLine := true, portA := ⟨.down, 0, 0, none, .good, 0, 0, none⟩, portB := ⟨.down, 0, 0, none, .good, 0, 0, none⟩
      portBQueue := [], uplinkQueue := [], hidQueue := [], responses := [], eventPending := false
      images := Vector.replicate 16 none, sources := t.sources, lastServed := .forwarded, resetPending := false } ∧
    ∀ i, t.src i = { s.src i with due := false }) ∧
  (∀ (i : Instr) (s : State), s.resetLine = true → (∀ x, i ≠ .powerOn x) → i ≠ .resetLineAssert →
    (∀ x, i ≠ .resetLineRelease x) → exec i s = .next s) ∧
  ∀ (straps : BitVec 12) (s : State), s.resetLine = true → ∃ t, exec (.resetLineRelease straps) s = .next t ∧
    Restarted (if straps = 0 ∨ straps = 4095 then 4094 else straps) t ∧
    t.portA = ⟨.down, 0, 0, none, .good, 0, 0, none⟩ ∧ t.portB = ⟨.down, 0, 0, none, .good, 0, 0, none⟩ ∧
    t.lastServed = .forwarded ∧ t.lastEventBegan = s.lastEventBegan ∧ t.resetLine = false ∧
    t.cause = (if straps = 0 ∨ straps = 4095 then s.cause ||| 0b1010 else (s.cause ||| 0b0010) &&& 0b0111))

/-- R4, R12, R33, R35, R36, R180: a node reset takes effect at the completion of the NODE_RESET response, or at its abort when Port A loses
lock. The link state, lock count, invalid run, quality and cell in reception of a port stand as they stood, its window counts are 0,
and a cell in flight beside the response goes on. Where the arbiter's begin is taken first, the cell it begins goes on too. -/
def Obligations.NodeResetTakesEffect : Prop :=
  ∀ s : State, s.resetLine = false → s.resetInFlight = true →
    (∀ order, ∃ t u, exec (.txComplete .a order) s = .next t ∧
      u = bump .aTxCells { s with portA := { s.portA with tx := none } } ∧
      Restarted s.node.address t ∧ t.cause = s.cause ||| 0b0100 ∧ t.resetLine = false ∧
      t.portA = { s.portA with windowCount := 0, windowBad := 0, tx := t.portA.tx } ∧
      t.portB = { s.portB with windowCount := 0, windowBad := 0, tx := t.portB.tx } ∧
      t.portB.tx.map InFlight.cell = s.portB.tx.map InFlight.cell ∧
      t.portA.tx.map InFlight.cell =
        (match order with | .resetFirst => none | .beginFirst => (beginA u).portA.tx.map InFlight.cell) ∧
      t.lastServed = (match order with | .resetFirst => s.lastServed | .beginFirst => (beginA u).lastServed) ∧
      t.lastEventBegan = (match order with | .resetFirst => s.lastEventBegan | .beginFirst => (beginA u).lastEventBegan)) ∧
    (s.portA.link = .up → s.portA.invalidRun = 3 → ∃ t, exec (.linkDown .a) s = .next t ∧
      Restarted s.node.address t ∧ t.cause = s.cause ||| 0b0100 ∧
      t.portA = ⟨.down, 0, 0, none, .good, 0, 0, none⟩ ∧
      t.portB = { s.portB with windowCount := 0, windowBad := 0, tx := t.portB.tx } ∧
      t.portB.tx.map InFlight.cell = s.portB.tx.map InFlight.cell ∧
      t.lastServed = s.lastServed ∧ t.lastEventBegan = s.lastEventBegan)

/-- The Laws, and the canonical form of the image memory, hold right after power-on whatever the straps read, and so at
`State.reset`. -/
def Obligations.LawsHoldAtReset : Prop :=
  ∀ s : State, (s = State.reset ∨ ∃ straps, s = State.poweredOn straps) →
    Law1 s ∧ Law2 s ∧ Law3 s ∧ Law4 s ∧ StampsAge s ∧ Law5 s ∧ Law6 s ∧ Law7 s ∧ Law8 s ∧ Law10 s ∧ Law11 s ∧ CountersCapped s ∧
      QueuesBounded s ∧ ScreensInRange s ∧ ImageMemoryWf s ∧ FencesSettled s ∧ SourceTableWf s ∧ NodeInRange s ∧ SteeringWf s ∧
      SteeringSettled s ∧ FocusWf s ∧ DeskHalvesWf s

/-! ### The link ports -/

/-- R2: each code group at a port in DOWN or ACQUIRING is a command of its own; an invalid one puts the port to DOWN with lock count 0, a
valid one counts, and the one that brings the count to the lock threshold, or finds it there, brings the port UP. R3, R5: the code groups
at an UP port that neither end a cell nor complete a run of four invalid ones. -/
def Obligations.CodeGroupsAtAPort : Prop :=
  (∀ (s : State) (p : Port) (g : CodeGroup), s.resetLine = false → (s.port p).link ≠ .up →
    let x := s.port p
    let n := if x.link = .down then 1 else min 4096 (x.lockCount + 1)
    let threshold := if s.node.shortLock then 32 else 4096
    (g = .invalid → groupCommand s p g = .acquisitionCodeGroup p g ∧
      exec (.acquisitionCodeGroup p g) s = .next (setPort p { x with link := .down, lockCount := 0 } s)) ∧
    (g ≠ .invalid → n < threshold → groupCommand s p g = .acquisitionCodeGroup p g ∧
      exec (.acquisitionCodeGroup p g) s = .next (setPort p { x with link := .acquiring, lockCount := n } s)) ∧
    (g ≠ .invalid → threshold ≤ n → groupCommand s p g = .linkUp p g ∧
      exec (.linkUp p g) s = .next (setPort p ⟨.up, n, 0, none, .good, 0, 0, x.tx⟩ s))) ∧
  (∀ (s : State) (p : Port), s.resetLine = false → (s.port p).link = .up →
    let x := s.port p
    let gives (g : CodeGroup) (rx : Option RxCell) (run : Nat) : Prop :=
      groupCommand s p g = .upCodeGroup p g ∧
        exec (.upCodeGroup p g) s = .next (setPort p { x with rx := rx, invalidRun := run } s)
    (x.rx = none → gives .startDelim (some ⟨[], false⟩) 0) ∧
    (x.rx = none → gives .endDelim none 0) ∧
    (x.rx = none → ∀ b, gives (.data b) none 0) ∧
    (∀ c b, x.rx = some c → c.bytes.length < 1035 → gives (.data b) (some ⟨c.bytes ++ [b], c.damaged⟩) 0) ∧
    gives .idle x.rx 0 ∧
    (x.rx = none → x.invalidRun < 3 → gives .invalid none (x.invalidRun + 1)) ∧
    ∀ c, x.rx = some c → x.invalidRun < 3 → gives .invalid (some ⟨c.bytes, true⟩) (x.invalidRun + 1))

/-- R5, R6, R8, R9: every cell that ends at an UP port counts in its window; a bad cell, a framing overrun among them, counts in the counter
of the check it fails first, a valid one in RX_CELLS, and a valid one of an up kind on Port A in A_RX_WRONG_DIR besides. A cell that
brings the window count to 4096 does what QUALITY_WINDOW_END does. -/
def Obligations.CellsAreCounted : Prop :=
  (∀ (s : State) (p : Port) (bad : Bool),
    let y := { s.port p with
      windowCount := (s.port p).windowCount + 1, windowBad := (s.port p).windowBad + (if bad then 1 else 0) }
    ((s.port p).windowCount + 1 < 4096 → countCell p bad s = setPort p y s) ∧
    (4096 ≤ (s.port p).windowCount + 1 → s.resetLine = false → (s.port p).link = .up →
      exec (.qualityWindowEnd p) (setPort p y s) = .next (countCell p bad s))) ∧
  (∀ (s : State) (p : Port),
    goodCell p s = countCell p false (bump (match p with | .a => .aRxCells | .b => .bRxCells)
      (setPort p { s.port p with rx := none, invalidRun := 0 } s))) ∧
  (∀ (s : State) (p : Port) (c : RxCell) (e : CellEnding) (k : RxCheck), s.resetLine = false → (s.port p).link = .up →
    ((s.port p).rx = none ∨ (s.port p).rx = some c) → firstFailure c e = some k →
    exec (.badCell p c e) s = .next (countCell p true (bump (badCounter p k)
      (setPort p { s.port p with rx := if e = .atStart then some ⟨[], false⟩ else none, invalidRun := 0 } s)))) ∧
  (∀ (s : State) (p : Port) (c : RxCell) (b : Byte), s.resetLine = false → (s.port p).link = .up →
    (s.port p).rx = some c → 1035 ≤ c.bytes.length →
    exec (.framingOverrun p b) s = .next (countCell p true (bump (badCounter p (if c.damaged then .code else .frame))
      (setPort p { s.port p with rx := none, invalidRun := 0 } s)))) ∧
  ∀ (s : State) (c : Cell), Arrives s .a c → c.kind.isDown = false →
    exec (.wrongDirectionCell c) s = .next (bump .aRxWrongDir (goodCell .a s))

/-- R10: the end of a quality window. -/
def Obligations.QualityWindowEnds : Prop :=
  ∀ (s : State) (p : Port), s.resetLine = false → (s.port p).link = .up → 4096 ≤ (s.port p).windowCount →
    ∃ t, exec (.qualityWindowEnd p) s = .next t ∧
      let b := (s.port p).windowBad
      let h := s.node.qualityHigh
      let l := s.node.qualityLow
      (h ≤ b → (t.port p).quality = .degraded) ∧
      (b < h → b ≤ l → (t.port p).quality = .good) ∧
      (b < h → l < b → (t.port p).quality = (s.port p).quality) ∧
      t.port p = { s.port p with quality := (t.port p).quality, windowCount := 0, windowBad := 0 } ∧
      Flagged (if (s.port p).quality = .good ∧ (t.port p).quality = .degraded then
        [match p with | .a => .linkADegraded | .b => .linkBDegraded] else []) s t ∧
      t = { setPort p (t.port p) s with events := t.events, eventPending := t.eventPending } ∧
      (p = .a → t.effectiveAgeLimit = if (t.port p).quality = .degraded then s.node.ageLimit / 4 else s.node.ageLimit)

/-- R3, R11, R25, R35: loss of lock, with a cell in flight that is not the answer to a NODE_RESET, or none. -/
def Obligations.LossOfLock : Prop :=
  ∀ (s : State) (p : Port), s.resetLine = false → (s.port p).link = .up → (s.port p).invalidRun = 3 → CountersCapped s →
    (p = .a → s.resetInFlight = false) →
    ∃ t, exec (.linkDown p) s = .next t ∧
      t.port p = ⟨.down, 0, 0, none, .good, 0, 0, none⟩ ∧
      Tallied
        ([match p with | .a => .aLockLosses | .b => .bLockLosses] ++
          (if (s.port p).rx.isSome then [match p with | .a => .aRxCut | .b => .bRxCut] else []) ++
          (if (s.port p).tx.isSome then [match p with | .a => .aTxAborted | .b => .bTxAborted] else []) ++
          (if p = .b then List.replicate s.portBQueue.length .fwdBTxDrop else [])) s t ∧
      t.portBQueue = (if p = .b then [] else s.portBQueue) ∧
      (∀ f, t.flagged f = (s.flagged f || f == (match p with | .a => .linkADown | .b => .linkBDown))) ∧
      t.eventPending = (s.eventPending ||
        (!s.flagged (downFlag p) && s.node.enable.getLsbD (downFlag p).bit) ||
        (p == .a && (s.portA.tx.map InFlight.source == some .event))) ∧
      (∀ x, t.image x = (match p, s.portA.tx.map InFlight.source with
        | .a, some (.refresh y n) => if x = y then (s.image x).map (markSent false n) else s.image x
        | _, _ => s.image x)) ∧
      (∀ i, t.src i = (match p, s.portA.tx.map InFlight.source with
        | .a, some (.deskStatus j) => if i = j ∧ s.heard i then { s.src i with due := true } else s.src i
        | _, _ => s.src i)) ∧
      t = { setPort p (t.port p) s with
        counters := t.counters, portBQueue := t.portBQueue, events := t.events, eventPending := t.eventPending
        images := t.images, sources := t.sources }

/-- R6, R7, R14: the bytes that end undamaged at an end delimiter are a valid cell exactly when they are the bytes of a cell: the kind code,
the payload length, the two addresses, the payload of a length right for its kind, and the CRC. -/
def Obligations.ValidIffBytesOfACell : Prop :=
  ∀ l : List Byte, firstFailure ⟨l, false⟩ .atEnd = none ↔ ∃ c : Cell, sizeFits c.kind c.payload = true ∧ l = cellBytes c

/-- R8, R14, R15, R17, R21, R23: the end of the cell that a command spells is that command, with every operand. The node address is one
that a node can hold, and a forwarded request is not for this node. A request that both a row of its own table and the row GET or PUT spell is
read under the narrower row, which is the model's choice (DESIGN CHOICE 29). -/
def Obligations.EndedCellIsItsCommand : Prop :=
  ∀ (node : Addr) (i : Instr) (p : Port) (c : Cell), node ≠ 4095 → i.wellFormed = true → cellOfCommand node i = some (p, c) →
    (∀ o l, i ≠ .mgmtReqForwarded o node l) →
    commandOfEnding node p ⟨cellBytes c, false⟩ .atEnd = i

/-! ### Forwarding and the queues between the ports -/

/-- R19 to R21, R24: a source cell's two decisions are made from its origin alone. One that no Subscription Table entry holds is offered to
Port B if the Forward Set has its origin, and is dropped as unwanted otherwise; one that is taken is offered to Port B all the same. R23,
R24, R26: the two queues between the ports. A request for neither this node nor all desks goes to the tail of the Port B transmit queue, a
cell from Port B to the tail of the forwarded uplink queue, each while there is room, and Port B begins the head. A begin of Port B that
cannot be leaves the state as it is (DESIGN CHOICE 5). -/
def Obligations.CellsAreForwarded : Prop :=
  (∀ (s : State) (i : Instr) (c : Cell), i.wellFormed = true → cellOfCommand s.node.address i = some (.a, c) →
    c.kind ∈ [Kind.tile, .frameEnd, .cursor, .srcStatus] → Arrives s .a c →
    let member := c.origin ≠ 0 ∧ ∃ n, s.forwardSet.get n = c.origin
    let taken := ∃ j, (s.src j).addr = some c.origin
    (¬taken → member → s.portB.link = .up → s.portBQueue.length < 32 →
      exec i s = .next { goodCell .a s with portBQueue := s.portBQueue ++ [c] }) ∧
    (¬taken → member → (s.portB.link ≠ .up ∨ 32 ≤ s.portBQueue.length) →
      exec i s = .next (bump .fwdBTxDrop (goodCell .a s))) ∧
    (¬taken → ¬member → exec i s = .next (bump .fwdUnwanted (goodCell .a s))) ∧
    (taken → ∃ t, exec i s = .next t ∧
      t.portBQueue =
        s.portBQueue ++ (if c.origin ≠ 0 ∧ c.origin ∈ s.forwardSet.toList ∧ s.portB.link = .up ∧ s.portBQueue.length < 32
          then [c] else []) ∧
      t.counter .fwdUnwanted = s.counter .fwdUnwanted)) ∧
  ((∀ (s : State) (o d : Addr) (l : List Byte), d ≠ s.node.address → d ≠ 4095 → Arrives s .a ⟨.mgmtReq, o, d, l⟩ →
    (s.portB.link = .up → s.portBQueue.length < 32 →
      exec (.mgmtReqForwarded o d l) s =
        .next { goodCell .a s with portBQueue := s.portBQueue ++ [⟨.mgmtReq, o, d, l⟩] }) ∧
    ((s.portB.link ≠ .up ∨ 32 ≤ s.portBQueue.length) →
      exec (.mgmtReqForwarded o d l) s = .next (bump .fwdBTxDrop (goodCell .a s)))) ∧
  (∀ (s : State) (c : Cell), Arrives s .b c →
    (s.uplinkQueue.length < 16 →
      exec (.portBCell c) s = .next { goodCell .b s with uplinkQueue := s.uplinkQueue ++ [c] }) ∧
    (16 ≤ s.uplinkQueue.length → exec (.portBCell c) s = .next (bump .fwdUpDrop (goodCell .b s)))) ∧
  ∀ s : State, s.resetLine = false →
    (∀ c l, s.portB.link = .up → s.portB.tx = none → s.portBQueue = c :: l →
      exec .portBBegin s = .next { s with portBQueue := l, portB := { s.portB with tx := some ⟨c, .forwarded⟩ } }) ∧
    ((s.portB.link ≠ .up ∨ s.portB.tx ≠ none ∨ s.portBQueue = []) → exec .portBBegin s = .next s))

/-! ### The HID Uplink Queue -/

/-- R28, R29: a keyboard entry or a pointer entry given to the HID Uplink Queue. -/
def Obligations.HidEntriesMerge : Prop :=
  (∀ (s : State) (i : Slot) (m : Byte) (keys : List Byte),
    (∀ pre post m' keys', s.hidQueue = pre ++ .key i m' keys' :: post →
      (∀ e ∈ pre ++ post, e.isKeyOf i = false) →
      giveKey i m keys s = bump .hidKeyMerged { s with hidQueue := pre ++ .key i m keys :: post }) ∧
    ((∀ e ∈ s.hidQueue, e.isKeyOf i = false) →
      giveKey i m keys s = { s with hidQueue := s.hidQueue ++ [.key i m keys] } ∧ (Law8 s → s.hidQueue.length < 32))) ∧
  (∀ (s : State) (i : Slot) (k : SrcScreen) (ax ay : Nat) (b : BitVec 5) (w : Int),
    let appended := { s with hidQueue := s.hidQueue ++ [.pointer i k ax ay b w] }
    let given := givePointer i k ax ay b w s
    let joinsOrDrops : Prop :=
      (s.hidQueue.countP HidEntry.isPointer < 24 → given = appended) ∧
      (24 ≤ s.hidQueue.countP HidEntry.isPointer → Flagged [.hidOverflow] s given ∧
        given = { bump .hidDrop s with events := given.events, eventPending := given.eventPending })
    (∀ pre post k' ax' ay' b' w', s.hidQueue = pre ++ .pointer i k' ax' ay' b' w' :: post →
      (∀ e ∈ post, e.isPointerOf i = false) →
      (k' = k ∧ b' = b → given = bump .hidPtrMerged
        { s with hidQueue := pre ++ .pointer i k ax ay b (max (-127) (min 127 (w' + w))) :: post }) ∧
      (¬(k' = k ∧ b' = b) → joinsOrDrops)) ∧
    ((∀ e ∈ s.hidQueue, e.isPointerOf i = false) → joinsOrDrops))

/-! ### The Uplink Arbiter -/

/-- R31: the arbiter's choice between its two sides. With no eligible cell nothing begins (DESIGN CHOICE 5). R32, R33, R76: the own order.
Among unsent refresh entries the one made first is chosen: the one whose creation order number lies furthest behind the creation counter,
counted modulo 4294967296. -/
def Obligations.ArbiterChooses : Prop :=
  (∀ s : State, s.resetLine = false → s.portA.link = .up → s.portA.tx = none →
    (∀ c l, s.uplinkQueue = c :: l → (s.ownPick = none ∨ s.lastServed = .own) →
      exec .portABegin s = .next { s with
        uplinkQueue := l, lastServed := .forwarded, portA := { s.portA with tx := some ⟨c, .forwarded⟩ } }) ∧
    (∀ q, s.ownPick = some q → (s.uplinkQueue = [] ∨ s.lastServed = .forwarded) → ∃ t, exec .portABegin s = .next t ∧
      t.lastServed = .own ∧ t.uplinkQueue = s.uplinkQueue ∧
      t.portA = { s.portA with tx := some ⟨s.ownCell q, q.txClass⟩ }) ∧
    (s.uplinkQueue = [] → s.ownPick = none → exec .portABegin s = .next s)) ∧
  (∀ s : State,
    let ready := s.eventPending = true ∧ ∀ t, s.lastEventBegan = some t → t + 10000 ≤ s.now
    let unsent (x : ImageIx) (e : RefreshEntry) : Prop := ∃ t, s.image x = some t ∧ e ∈ t.entries ∧ e.sent = false
    (∀ e l, s.hidQueue = e :: l → s.ownPick = some (.hid e)) ∧
    (s.hidQueue = [] →
      (∀ r l, s.responses = r :: l → s.ownPick = some (.response r)) ∧
      (s.responses = [] →
        (ready → s.ownPick = some .event) ∧
        (¬ready →
          ((∃ x e, unsent x e) → ∃ x e, s.ownPick = some (.refresh x e) ∧ unsent x e ∧
            ∀ y g, unsent y g → (s.creation - g.creation).toNat ≤ (s.creation - e.creation).toNat) ∧
          ((¬∃ x e, unsent x e) →
            (∀ i, (s.src i).due = true → (∀ j, j < i → (s.src j).due = false) → s.ownPick = some (.deskStatus i)) ∧
            ((∀ i, (s.src i).due = false) → s.ownPick = none))))))

/-- R11, R14, R16, R17, R32, R34, R122: an own cell that begins: its contents, built from its class as it stands, and what leaves the class. The
place that a response frees answers the oldest due fence within the same event (DEDUCED 9). -/
def Obligations.OwnCellLeavesItsClass : Prop :=
  ∀ (s : State) (q : OwnPick), s.resetLine = false → s.portA.link = .up → s.portA.tx = none → s.ownPick = some q →
    (s.uplinkQueue = [] ∨ s.lastServed = .forwarded) →
    let begins (kind : Kind) (dest : Addr) (payload : List Byte) (k : TxClass) (u : State) : Prop :=
      exec .portABegin s = .next { u with
        lastServed := .own, portA := { s.portA with tx := some ⟨⟨kind, s.node.address, dest, payload⟩, k⟩ } }
    let addr (i : Slot) : Addr := ((s.src i).addr).getD 0
    match q with
    | .hid (.key i m keys) =>
      begins .hidKey (addr i) (m :: (keys ++ List.replicate 6 0).take 6) .hidEntry { s with hidQueue := s.hidQueue.tail }
    | .hid (.pointer i k ax ay b w) =>
      begins .hidPointer (addr i)
        (BitVec.ofNat 8 k.val :: (be16 (BitVec.ofNat 16 ax) ++ be16 (BitVec.ofNat 16 ay) ++ [b.setWidth 8, BitVec.ofInt 8 w]))
        .hidEntry { s with hidQueue := s.hidQueue.tail }
    | .response r =>
      let status : Byte := match r.status with
        | .ok => 0 | .clamped => 1 | .noTable => 2 | .noIndex => 3 | .badValue => 4 | .readOnly => 5 | .busy => 6 | .empty => 7
        | .badRequest => 8
      begins .mgmtRsp r.dest (be16 r.tag ++ status :: r.data) (.response r.isReset)
        (answerOldestDue { s with responses := s.responses.tail })
    | .event =>
      begins .event s.controller (be16 s.events ++ be16 s.node.enable) .event
        (bump .mgEventsSent { s with eventPending := false, lastEventBegan := some s.now })
    | .refresh x e =>
      ∀ v, s.image x = some v →
        begins .refresh (addr v.owner)
          (BitVec.ofNat 8 v.screen.val :: (be16 (BitVec.ofNat 16 e.first) ++ be16 (BitVec.ofNat 16 e.count)))
          (.refresh x e.creation)
          (bump .rsSent (setImage x (some { v with
            entries := v.entries.map fun g => if g.creation = e.creation then { g with sent := true } else g }) s))
    | .deskStatus i =>
      begins .deskStatus (addr i) ((s.src i).deskHalf.toList.flatMap be16) (.deskStatus i)
        (setSrc i { s.src i with due := false } s)

/-- R11, R12, R33: what a transmit side sends: idle groups, and a cell in flight between its delimiters, which an UP port takes in, group by
group, as exactly the cell's bytes (R5). A transmission completes, but for that of a NODE_RESET response; and the end of the event holdoff, at which the clock
stands at 10 ms after the last EVENT cell began, or later: that this row moves the clock is the model's choice (DESIGN CHOICE 11). -/
def Obligations.TransmissionsComplete : Prop :=
  (∀ (s : State) (p : Port) (order : ResetOrder) (f : InFlight), s.resetLine = false → (s.port p).tx = some f →
    (p = .a → s.resetInFlight = false) →
    exec (.txComplete p order) s =
      .next (bump (match p with | .a => .aTxCells | .b => .bTxCells) (setPort p { s.port p with tx := none } s))) ∧
  (∀ (s : State) (t : Nat), s.resetLine = false → s.lastEventBegan = some t →
    exec .eventHoldoffEnd s = .next { s with now := max s.now (t + 10000) }) ∧
  (∀ (s : State) (p : Port) (n : Nat), s.resetLine = false →
    ((s.port p).tx = none → s.sentGroup p n = some .idle) ∧
    ∀ f, (s.port p).tx = some f → s.sentGroup p n = some (
      if n = 0 then .startDelim
      else if n ≤ (cellBytes f.cell).length then .data (byteAt (cellBytes f.cell) (n - 1))
      else if n = (cellBytes f.cell).length + 1 then .endDelim else .idle)) ∧
  ∀ (s u : State) (p q : Port) (f : InFlight), s.resetLine = false → (s.port p).tx = some f →
    sizeFits f.cell.kind f.cell.payload = true → u.resetLine = false → (u.port q).link = .up → (u.port q).rx = none →
    let receive (v : State) (g : Option CodeGroup) : State :=
      match exec (groupCommand v q (g.getD .invalid)) v with | .next w => w | _ => v
    ((List.range (1 + (cellBytes f.cell).length)).map (s.sentGroup p)).foldl receive u =
      setPort q { u.port q with rx := some ⟨cellBytes f.cell, false⟩, invalidRun := 0 } u

/-- R122: the oldest fence with nothing left to await is answered OK when the response queue has a free place. Where none is due, or there is
no place, nothing is answered (DESIGN CHOICE 5). R122: the due fences are answered together, oldest first, while the response queue has
room; those left keep their order. -/
def Obligations.DueFencesAreAnswered : Prop :=
  (∀ s : State, s.resetLine = false →
    (∀ pre f post, s.fences = pre ++ f :: post → (∀ g ∈ pre, g.awaited ≠ 0) → f.awaited = 0 → s.responses.length < 8 →
      exec .fenceAnswerDeferred s =
        .next { s with fences := pre ++ post, responses := s.responses ++ [⟨f.tag, .ok, [], f.origin, false⟩] }) ∧
    (((∀ g ∈ s.fences, g.awaited ≠ 0) ∨ 8 ≤ s.responses.length) → exec .fenceAnswerDeferred s = .next s)) ∧
  (∀ s : State,
    let due := s.fences.filter fun f => f.awaited == 0
    let n := min due.length (8 - s.responses.length)
    let t := answerDueFences s
    t = { s with
      fences := t.fences
      responses := s.responses ++ (due.take n).map fun f => ⟨f.tag, .ok, [], f.origin, false⟩ } ∧
    t.fences.Sublist s.fences ∧
    t.fences.filter (fun f => f.awaited == 0) = due.drop n ∧
    t.fences.filter (fun f => f.awaited != 0) = s.fences.filter fun f => f.awaited != 0)

/-! ### Tiles and frames -/

/-- R19, R21, R22, R39, R55: a taken TILE or FRAME_END of a LIVE or STALE slot is accepted and handed to the Tile Store, and a STALE slot's
return to LIVE is reported; of a WAITING or LOST slot it is dropped by the Tile Store. Port A counts the cell and the Forwarding Unit
offers the copy before the taking block works (DEDUCED 13). R39, R52, R55: a taken CURSOR: of a LIVE or STALE slot it is accepted, and a
good one replaces the cursor record whole; of a WAITING or LOST slot it is dropped. R39, R41: a malformed SRC_STATUS is dropped and
counted, and is accepted for liveness of a LIVE or STALE slot. -/
def Obligations.TakenCellsAreHeard : Prop :=
  ((∀ (s : State) (i : Slot) (o d : Addr) (t : TileCell), let c : Cell := ⟨.tile, o, d, tilePayload t⟩
    Takes s i c →
    (((s.src i).state = .live ∨ (s.src i).state = .stale) →
      exec (.tile o d t) s = .next (returned i s (storeTile i t (hear i (handedOn c s))))) ∧
    (((s.src i).state = .waiting ∨ (s.src i).state = .lost) →
      exec (.tile o d t) s = .next (bump .tsTileNotAdmitted (handedOn c s)))) ∧
  ∀ (s : State) (i : Slot) (o d : Addr) (f : FrameEndCell), let c : Cell := ⟨.frameEnd, o, d, frameEndPayload f⟩
    Takes s i c →
    (((s.src i).state = .live ∨ (s.src i).state = .stale) →
      exec (.frameEnd o d f) s = .next (returned i s (storeFrameEnd i f (hear i (handedOn c s))))) ∧
    (((s.src i).state = .waiting ∨ (s.src i).state = .lost) →
      exec (.frameEnd o d f) s = .next (bump .tsEndNotAdmitted (handedOn c s)))) ∧
  (∀ (s : State) (i : Slot) (o d : Addr) (k : CursorCell), let c : Cell := ⟨.cursor, o, d, cursorPayload k⟩
    Takes s i c →
    let u := hear i (handedOn c s)
    (((s.src i).state = .live ∨ (s.src i).state = .stale) → k.hotX.toNat ≤ 31 → k.hotY.toNat ≤ 31 →
      exec (.cursor o d k) s = .next (returned i s (setSrc i { u.src i with
        cursor := some ⟨decide (k.hidden ≠ 0), k.hotX.toNat, k.hotY.toNat, k.colourA, k.colourB, k.image⟩ } u))) ∧
    (((s.src i).state = .live ∨ (s.src i).state = .stale) → (31 < k.hotX.toNat ∨ 31 < k.hotY.toNat) →
      exec (.cursor o d k) s = .next (returned i s (bump .srcBadCursor u))) ∧
    (((s.src i).state = .waiting ∨ (s.src i).state = .lost) →
      exec (.cursor o d k) s = .next (bump .srcNotLive (handedOn c s)))) ∧
  (∀ (s : State) (i : Slot) (o d : Addr) (x : SrcStatusCell), let c : Cell := ⟨.srcStatus, o, d, srcStatusPayload x⟩
    Takes s i c → (x.screenCount = 0 ∨ 4 < x.screenCount.toNat) →
    (((s.src i).state = .live ∨ (s.src i).state = .stale) →
      exec (.srcStatus o d x) s = .next (returned i s (bump .srcBadStatus (hear i (handedOn c s))))) ∧
    (((s.src i).state = .waiting ∨ (s.src i).state = .lost) →
      exec (.srcStatus o d x) s = .next (bump .srcBadStatus (handedOn c s))))

/-- R59: the four windows of serial comparison. -/
def Obligations.FourWindows : Prop :=
  ∀ c f : Frame, let d := (f.toNat + 65536 - c.toNat) % 65536
    (d = 0 ∧ window c f = .same) ∨ (1 ≤ d ∧ d ≤ 64 ∧ window c f = .newer d) ∨
      (65472 ≤ d ∧ d ≤ 65535 ∧ window c f = .late) ∨ (65 ≤ d ∧ d ≤ 65471 ∧ window c f = .jump)

/-- R63, R64, R79: a TILE of the current frame is written. Each pixel goes to its place in the screen's image slot, and no other pixel of any
image slot changes; its stamp becomes C and no other stamp changes; the entry covering it falls by one when the write counts, and
retires at 0; nothing else changes. -/
def Obligations.SameFrameTileIsWritten : Prop :=
  ∀ (s : State) (i : Slot) (x : ImageIx) (t : Tracking) (cell : TileCell), AdmittedScreen s i cell.screen x t →
    t.width ≤ 3840 → t.height ≤ 2160 → ImageMemoryWf s →
    cell.column.toNat < t.width / 16 → cell.row.toNat < t.height / 16 → t.current = some cell.frame →
    let n := cell.row.toNat * (t.width / 16) + cell.column.toNat
    ∃ m stamps entries retired,
      storeTile i cell s = bump .tsTiles ((if retired then bump .rsRetired else id)
        (setImage x (some { t with received := min 65535 (t.received + 1), stamps := stamps, entries := entries })
          { s with imageMem := m })) ∧
      Memory.wf m = true ∧
      (∀ (y : ImageIx) (u v : Nat), u < 3840 → v < 2160 → { s with imageMem := m }.imagePixel y u v =
        if y = x ∧ u / 16 = cell.column.toNat ∧ v / 16 = cell.row.toNat then
          (match cell.image with | .raw px => px.get (Fin.ofNat 256 (v % 16 * 16 + u % 16)) | .fill c => c)
        else s.imagePixel y u v) ∧
      (∀ j, storeGet stamps j = if j = n then some cell.frame else storeGet t.stamps j) ∧
      ((∀ g ∈ t.entries, g.covers n = false) → entries = t.entries ∧ retired = false) ∧
      ∀ pre g post, t.entries = pre ++ g :: post → (∀ h ∈ pre, h.covers n = false) → g.covers n = true →
        let counts := ∀ p, storeGet t.stamps n = some p → ∃ r, g.request = some r ∧ 1 ≤ (r - p).toNat ∧ (r - p).toNat ≤ 32767
        (counts → g.remaining ≤ 1 → entries = pre ++ post ∧ retired = true) ∧
        (counts → 1 < g.remaining → entries = pre ++ { g with remaining := g.remaining - 1 } :: post ∧ retired = false) ∧
        (¬counts → entries = t.entries ∧ retired = false)

/-- R60, R61, R63, R65: the drops of the Tile Store: a cell that concerns no admitted screen, a TILE outside the grid, a late TILE or
FRAME_END, a repeated FRAME_END. Each changes nothing but its counter. -/
def Obligations.DroppedCellsOnlyCount : Prop :=
  ∀ (s : State) (i : Slot) (cell : TileCell) (f : FrameEndCell),
    ((∀ x t, ¬AdmittedScreen s i cell.screen x t) → storeTile i cell s = bump .tsTileNotAdmitted s) ∧
    ((∀ x t, ¬AdmittedScreen s i f.screen x t) → storeFrameEnd i f s = bump .tsEndNotAdmitted s) ∧
    (∀ x t, AdmittedScreen s i cell.screen x t →
      (t.width / 16 ≤ cell.column.toNat ∨ t.height / 16 ≤ cell.row.toNat) → storeTile i cell s = bump .tsBadTile s) ∧
    (∀ x t c, AdmittedScreen s i cell.screen x t → cell.column.toNat < t.width / 16 → cell.row.toNat < t.height / 16 →
      t.current = some c → 65472 ≤ (cell.frame - c).toNat → storeTile i cell s = bump .tsLate s) ∧
    (∀ x t c, AdmittedScreen s i f.screen x t → t.current = some c →
      (65472 ≤ (f.frame - c).toNat ∨ (f.frame = c ∧ t.closed = true)) → storeFrameEnd i f s = bump .tsLate s)

/-- R63, R65, R66: a TILE or FRAME_END of another frame first moves the record to that frame, with a received count of 0 and the closed flag
clear, and is then handled as one of the current frame. R65, R68: a FRAME_END of the current frame, not yet closed, closes it and judges
it. -/
def Obligations.FramesMoveAndAreJudged : Prop :=
  (∀ (s : State) (i : Slot) (x : ImageIx) (t : Tracking),
    let moves (move : Frame → State → State) (may : Frame → Prop) : Prop :=
      (∀ cell : TileCell, AdmittedScreen s i cell.screen x t → cell.column.toNat < t.width / 16 →
        cell.row.toNat < t.height / 16 → may cell.frame → storeTile i cell s = storeTile i cell (move cell.frame s)) ∧
      ∀ f : FrameEndCell, AdmittedScreen s i f.screen x t → may f.frame →
        storeFrameEnd i f s = storeFrameEnd i f (move f.frame s)
    (t.current = none → moves
      (fun f => setImage x (some { t with
        current := some f, received := 0, closed := false
        entries := t.entries.map fun e => { e with request := some (e.request.getD f) } })) (fun _ => True)) ∧
    ∀ c, t.current = some c →
      (∀ d, 1 ≤ d → d ≤ 64 → moves (advance x d) fun f => (f - c).toNat = d) ∧
      moves (resynchronize x) fun f => 65 ≤ (f - c).toNat ∧ (f - c).toNat ≤ 65471) ∧
  (∀ (s : State) (i : Slot) (x : ImageIx) (t : Tracking) (f : FrameEndCell), AdmittedScreen s i f.screen x t →
    t.current = some f.frame → t.closed = false →
    let closed := setImage x (some { t with closed := true }) s
    (t.received = f.count.toNat → storeFrameEnd i f s = bump .tsFramesComplete closed) ∧
    (t.received ≠ f.count.toNat → ∃ u, storeFrameEnd i f s = tornRepair x u ∧
      Flagged [.frameTorn] closed u ∧
      u = { bump .tsTorn closed with events := u.events, eventPending := u.eventPending }))

/-- R67, R68: an advance counts the torn frames it leaves behind, moves the current frame, expires, repairs once if a frame was torn, and
scans; it changes no other screen, no geometry and no image memory. -/
def Obligations.AdvanceTakesItsSteps : Prop :=
  ∀ (s : State) (x : ImageIx) (t : Tracking) (c f : Frame) (d : Nat), s.image x = some t → t.current = some c → CountersCapped s →
    let torn := (if t.closed then 0 else 1) + (if 1 < d then 1 else 0)
    ∃ u, advance x d f s = runScanner x d (if torn = 0 then expireEntries x u else tornRepair x (expireEntries x u)) ∧
      u.image x = some { t with current := some f, received := 0, closed := false } ∧ (∀ y, y ≠ x → u.image y = s.image y) ∧
      Tallied (List.replicate torn .tsTorn) s u ∧ Flagged (List.replicate torn .frameTorn) s u ∧
      u = { s with images := u.images, counters := u.counters, events := u.events, eventPending := u.eventPending } ∧
      (∃ v, (advance x d f s).image x = some v ∧ v.current = some f ∧ v.received = 0 ∧ v.closed = false ∧
        v.owner = t.owner ∧ v.screen = t.screen ∧ v.width = t.width ∧ v.height = t.height) ∧
      ∀ y, y ≠ x → (advance x d f s).image y = s.image y

/-- R69, R70, R76, R77, R80: expiry, the torn repair and resynchronization. -/
def Obligations.ExpiryRepairAndResynchronization : Prop :=
  (∀ (s : State) (x : ImageIx) (t : Tracking) (c : Frame), s.image x = some t → t.current = some c →
    (∃ u, expireEntries x s = { setImage x (some { t with
        entries := t.entries.filter fun e => !(e.request.any fun r => 8 ≤ (c - r).toNat) }) s with counters := u.counters } ∧
      (CountersCapped s → Tallied (List.replicate
        (t.entries.countP fun e => e.request.any fun r => 8 ≤ (c - r).toNat) .rsExpired) s u)) ∧
    let tiles := (t.width / 16) * (t.height / 16)
    let awaited := (List.range tiles).countP fun j => storeGet t.stamps j != some c
    ((∃ e ∈ t.entries, e.first = 0 ∧ e.count = tiles) → tornRepair x s = s) ∧
    (awaited = 0 → tornRepair x s = s) ∧
    ((∀ e ∈ t.entries, ¬(e.first = 0 ∧ e.count = tiles)) → awaited ≠ 0 →
      tornRepair x s = { setImage x (some { t with
        entries := [⟨0, tiles, some c, awaited, false, s.creation⟩] }) s with creation := s.creation + 1 })) ∧
  (∀ (s : State) (x : ImageIx) (t : Tracking) (f : Frame), s.image x = some t →
    let tiles := (t.width / 16) * (t.height / 16)
    let u := resynchronize x f s
    Flagged [.frameTorn] s u ∧
    u = { bump .tsResync (setImage x (some { t with
          stamps := [], entries := [⟨0, tiles, some f, tiles, false, s.creation⟩], cursor := 0, dir := .up
          current := some f, received := 0, closed := false }) s) with
        creation := s.creation + 1, events := u.events, eventPending := u.eventPending })

/-! ### The Refresh Scanner -/

/-- R83 to R87: a scanner step on the state: 64 examinations for each frame of the advance, at a quarter of the age limit while Port A is
DEGRADED; its counts go to the three counters of the scanner. R83: the scan passes to and fro over the screen. In the place `n` of the
period 0, 1, …, tiles - 1, tiles - 2, …, 1 the cursor stands on tile `n` going UP or on tile 2 (tiles - 1) - n going DOWN, and a step of B
examinations moves it B places on. -/
def Obligations.ScannerSteps : Prop :=
  (∀ (s : State) (x : ImageIx) (t : Tracking) (c : Frame) (d : Nat), s.image x = some t → t.current = some c → CountersCapped s →
    let limit := if s.portA.quality = .degraded then s.node.ageLimit / 4 else s.node.ageLimit
    let r := scanStep c limit (64 * d) t s.creation
    let u := runScanner x d s
    u = { setImage x (some r.track) s with creation := r.creation, counters := u.counters } ∧
    Tallied (List.replicate r.runs .rsRuns ++ List.replicate r.deferred .rsDeferred ++
      List.replicate r.ceilings .rsCeiling) s u) ∧
  (∀ (c : Frame) (limit budget : Nat) (t : Tracking) (creation : BitVec 32), 2 ≤ t.tiles → t.cursor < t.tiles →
    let period := 2 * (t.tiles - 1)
    let place (v : Tracking) : Nat := (match v.dir with | .up => v.cursor | .down => period - v.cursor) % period
    let v := (scanStep c limit budget t creation).track
    place v = (place t + budget) % period ∧ v.cursor < t.tiles ∧
      (1 ≤ budget → (v.dir = .up → 1 ≤ v.cursor) ∧ (v.dir = .down → v.cursor + 1 < t.tiles)))

/-- R76, R77, R85, R86: what a scanner step does to the list and the stamps. Its new entries join behind the old ones, made in order, each a run of
1 to 16 tiles awaited whole, unsent, with request frame C, of tiles that no entry covered and whose stamp is absent or old; the list never
grows past 4; only a stamp 30,000 frames old or older changes, to that age; and when no run was put off, every tile it examined is
covered or young afterwards. R85: RS_CEILING counts the examinations that find an age of 30,000 or more. R86: consecutive qualifying
examinations are one run (`runs`: the first examination of each, and its length), which closes only at 16 tiles, as the budget ends, at the
last tile in the direction of travel, or at a tile that does not qualify; the runs for which the list has room become the entries, from the
lowest tile of each, and the others are counted in RS_DEFERRED. `before k` is the screen as examination k (from 0) finds it; a run open at
that moment, which it shows as closed, holds other tiles. -/
def Obligations.ScannerFindsOldTiles : Prop :=
  ∀ (c : Frame) (limit budget : Nat) (t : Tracking) (creation : BitVec 32), 2 ≤ t.tiles → t.cursor < t.tiles →
    let r := scanStep c limit budget t creation
    let v := r.track
    let old (p : Option Frame) : Prop := ∀ q, p = some q → limit ≤ (c - q).toNat
    let before (k : Nat) : Tracking := (scanStep c limit k t creation).track
    let tile (k : Nat) : Nat := (before k).cursor
    let qualifies (k : Nat) : Prop := (before k).covered (tile k) = false ∧ old ((before (k + 1)).stamp (tile k))
    let atEnd (k : Nat) : Prop := ((before k).dir = .up ∧ tile k + 1 = t.tiles) ∨ ((before k).dir = .down ∧ tile k = 0)
    (∃ (new : List RefreshEntry) (runs : List (Nat × Nat)), v.entries = t.entries ++ new ∧ new.length = r.runs ∧ r.creation = creation + BitVec.ofNat 32 r.runs ∧
      (t.entries.length ≤ 4 → v.entries.length ≤ 4) ∧
      (∀ (n : Nat) (e : RefreshEntry), new[n]? = some e →
        e.creation = creation + BitVec.ofNat 32 n ∧ e.request = some c ∧ e.sent = false ∧ 1 ≤ e.count ∧ e.count ≤ 16 ∧
          e.remaining = e.count ∧ e.first + e.count ≤ t.tiles ∧
          ∀ j, e.covers j = true → t.covered j = false ∧ old (v.stamp j)) ∧
      runs.Pairwise (fun p q => p.1 + p.2 ≤ q.1) ∧
      (∀ k, k < budget → (qualifies k ↔ ∃ p ∈ runs, p.1 ≤ k ∧ k < p.1 + p.2)) ∧
      (∀ p ∈ runs, 1 ≤ p.2 ∧ p.2 ≤ 16 ∧ p.1 + p.2 ≤ budget ∧ (∀ k, p.1 ≤ k → k + 1 < p.1 + p.2 → ¬atEnd k) ∧
        (p.2 = 16 ∨ p.1 + p.2 = budget ∨ atEnd (p.1 + p.2 - 1) ∨ ¬qualifies (p.1 + p.2))) ∧
      r.runs = min runs.length (4 - t.entries.length) ∧ r.deferred = runs.length - (4 - t.entries.length) ∧
      ∀ (n : Nat) (e : RefreshEntry) (p : Nat × Nat), new[n]? = some e → runs[n]? = some p → e.count = p.2 ∧ e.first = min (tile p.1) (tile (p.1 + p.2 - 1))) ∧
    r.ceilings = ((List.range budget).filter fun k => ((before k).stamp (tile k)).any fun p => 30000 ≤ (c - p).toNat).length ∧
    (∀ j, v.stamp j = t.stamp j ∨ ∃ p, t.stamp j = some p ∧ 30000 ≤ (c - p).toNat ∧ v.stamp j = some (c - 30000)) ∧
    (∀ k, k < budget → let j := (scanStep c limit k t creation).track.cursor
      (∀ p, v.stamp j = some p → (c - p).toNat ≤ 30000) ∧
      (r.deferred = 0 → v.covered j = true ∨ ¬old (v.stamp j))) ∧
    v = { t with entries := v.entries, stamps := v.stamps, cursor := v.cursor, dir := v.dir }

/-! ### Sources -/

/-- R41 to R44, R49 to R51, R55, R56: a well-formed SRC_STATUS. `u` is the state before the report. The slot is LIVE with its record: the
source half compared and stored, the lamps and the screen count. Its screens, the image slots and the creation counter are those that
admission gives from the state with that record (`admitted`; ScreensAreAdmitted says what admission does). A change of the slot's state
or of an admitted screen is then reported. The joining cell counts as the last accepted one (DEDUCED 7), and a change is judged by R55's
words (DEDUCED 15). -/
def Obligations.StatusIsTaken : Prop :=
  ∀ (s : State) (i : Slot) (o d : Addr) (x : SrcStatusCell), let c : Cell := ⟨.srcStatus, o, d, srcStatusPayload x⟩
    Takes s i c → CountersCapped s → x.screenCount ≠ 0 → x.screenCount.toNat ≤ 4 → (s.src i).state ≠ .absent →
    let joins := (s.src i).state = .waiting ∨ (s.src i).state = .lost
    let differs := (s.src i).half ≠ some x.half
    let good (k : SrcScreen) : Bool := goodSize (x.sizes.get k).width.toNat (x.sizes.get k).height.toNat
    let grown (k : SrcScreen) : Bool := (k.val < x.screenCount.toNat && good k) && match s.entry i k with
      | some ⟨w, h, .admitted _⟩ => w != (x.sizes.get k).width.toNat || h != (x.sizes.get k).height.toNat
      | _ => false
    let waits (u : State) : Prop := ∃ k e, u.entry i k = some e ∧ e.admission = .notAdmitted
    let record : SourceRecord := { s.src i with
      state := .live, lastAccepted := some s.now, silenceTimer := some s.now
      statusTimer := if joins then some s.now else (s.src i).statusTimer
      due := if joins then true else (s.src i).due
      lamps := x.lamps.setWidth 5, half := some x.half
      changed := if differs then true else (s.src i).changed
      overrun := if differs ∧ (s.src i).changed then true else (s.src i).overrun
      screenCount := x.screenCount.toNat }
    let admitted := runAdmission i x (setSrc i record (handedOn c s))
    ∃ u, exec (.srcStatus o d x) s =
        .next (if ((s.src i).state ≠ .live ∨ s.admittedView i ≠ u.admittedView i) ∧ u.steersTo i then reevaluate u else u) ∧
      u.src i = { record with screens := (admitted.src i).screens } ∧ u.images = admitted.images ∧ u.creation = admitted.creation ∧
      u.keyboard = { s.keyboard with
        lamps := if s.keyboard.focus = some i then x.lamps.setWidth 5 else s.keyboard.lamps } ∧
      Tallied ((if joins then [.srcJoined] else []) ++ (if differs ∧ (s.src i).changed then [.srcHalfOverrun] else []) ++
        (allSrcScreens.filter fun k => k.val < x.screenCount.toNat && !good k).map (fun _ => .srcUnusable) ++
        (allSrcScreens.filter grown).map (fun _ => .srcGeometry) ++ (if waits u then [.srcAdmitFull] else [])) (handedOn c s) u ∧
      Flagged ((if joins then [.sourceJoined] else []) ++ (allSrcScreens.filter grown).map (fun _ => .geometryChanged) ++
        (if waits u then [.admitFull] else [])) (handedOn c s) u ∧
      u = { handedOn c s with
        sources := s.sources.set i (u.src i) i.isLt, keyboard := u.keyboard, images := u.images, creation := u.creation
        counters := u.counters, events := u.events, eventPending := u.eventPending }

/-- R48 to R51, R57, R77: admission. Beyond the screen count an entry becomes absent; a bad size makes it UNUSABLE; an ADMITTED screen of a good
size keeps its image slot, untouched if the size is the same and started afresh if not; any other screen of a good size is admitted into
the lowest-numbered free image slots in index order, started afresh, and waits NOT_ADMITTED only when none is free. Image slots of other
slots' screens are untouched, and one that was free, or that the slot gave up, is free or given to a screen started afresh in it. The fresh
starts come in order (`grown` by a change of geometry in the first pass, then `entered` in the second, each in index order); each takes the
creation counter's value at its making, and the counter rises by one for each (R76). -/
def Obligations.ScreensAreAdmitted : Prop :=
  ∀ (s : State) (i : Slot) (x : SrcStatusCell), Law2 s → s.resetLine = false → s.heard i = true →
    let u := runAdmission i x s
    let w (k : SrcScreen) := (x.sizes.get k).width.toNat
    let h (k : SrcScreen) := (x.sizes.get k).height.toNat
    let good (k : SrcScreen) : Prop := k.val < x.screenCount.toNat ∧
      (w k % 16 = 0 ∧ 256 ≤ w k ∧ w k ≤ 3840) ∧ h k % 16 = 0 ∧ 256 ≤ h k ∧ h k ≤ 2160
    ∃ grown entered : List SrcScreen,
    let fresh (m : ImageIx) (k : SrcScreen) : Prop := ∃ n, (grown ++ entered)[n]? = some k ∧ u.image m = some {
      owner := i, screen := k, width := w k, height := h k, current := none, received := 0, closed := false, stamps := []
      entries := [⟨0, w k / 16 * (h k / 16), none, w k / 16 * (h k / 16), false, s.creation + BitVec.ofNat 32 n⟩], cursor := 0, dir := .up }
    grown.Pairwise (· < ·) ∧ entered.Pairwise (· < ·) ∧
    (∀ k, k ∈ grown ↔ good k ∧ ∃ a b m, s.entry i k = some ⟨a, b, .admitted m⟩ ∧ (a, b) ≠ (w k, h k)) ∧
    (∀ k, k ∈ entered ↔ good k ∧ (∀ e m, s.entry i k = some e → e.admission ≠ .admitted m) ∧
      ∃ m, u.entry i k = some ⟨w k, h k, .admitted m⟩) ∧
    u.creation = s.creation + BitVec.ofNat 32 (grown ++ entered).length ∧
    (∀ m, (s.image m = none ∨ ∃ k e, s.entry i k = some e ∧ e.admission = .admitted m ∧ ¬good k) →
      u.image m = none ∨ ∃ k, k ∈ entered ∧ u.entry i k = some ⟨w k, h k, .admitted m⟩ ∧ fresh m k) ∧
    (∀ k, x.screenCount.toNat ≤ k.val → u.entry i k = none) ∧
    (∀ k, k.val < x.screenCount.toNat → ¬good k → u.entry i k = some ⟨w k, h k, .unusable⟩) ∧
    (∀ k m, good k → s.entry i k = some ⟨w k, h k, .admitted m⟩ →
      u.entry i k = s.entry i k ∧ u.image m = s.image m) ∧
    (∀ k a b m, good k → s.entry i k = some ⟨a, b, .admitted m⟩ → (a, b) ≠ (w k, h k) →
      u.entry i k = some ⟨w k, h k, .admitted m⟩ ∧ fresh m k) ∧
    (∀ k, good k → (∀ e m, s.entry i k = some e → e.admission ≠ .admitted m) →
      (u.entry i k = some ⟨w k, h k, .notAdmitted⟩ ∧ ∀ m, u.image m ≠ none) ∨
      ∃ m, u.entry i k = some ⟨w k, h k, .admitted m⟩ ∧ fresh m k ∧ (∀ n, u.image n = none → m < n) ∧
        (∀ k' n, k < k' → u.entry i k' = some ⟨w k', h k', .admitted n⟩ →
          (∀ e n, s.entry i k' = some e → e.admission ≠ .admitted n) → m < n) ∧
        ∀ t, s.image m = some t → t.owner = i) ∧
    (∀ m t, s.image m = some t → t.owner ≠ i → u.image m = some t) ∧
    ∀ j, j ≠ i → u.src j = s.src j

/-- R40, R47: the 300 ms expiry of a LIVE slot, and the status period of a slot. The clock stands at the moment of the expiry, or later
(DESIGN CHOICE 11). R30, R40, R48, R53, R55, R136, R154, R183: the 1000 ms expiry of a STALE slot. The slot keeps its address, source half
with its flags, lamp set and declared screen count; its image slots are free, its cursor record, queued entries, capture and focus are
gone; the other slots' image slots are untouched (`u`). The report re-evaluates the pointer if the target or the capture belonged to the
slot, or the slot was the focus; the focus may move (DEDUCED 8 reads when). -/
def Obligations.SourceTimersExpire : Prop :=
  ((∀ (s : State) (i : Slot) (since : Nat), s.resetLine = false → (s.src i).state = .live →
    (s.src i).silenceTimer = some since → ∃ u,
      exec (.silenceExpiryStale i) s = .next (if s.steersTo i then reevaluate u else u) ∧
      Flagged [.sourceStale] s u ∧
      u = { bump .srcStale (setSrc i { s.src i with state := .stale } s) with
        now := max s.now (since + 300000), events := u.events, eventPending := u.eventPending }) ∧
  ∀ (s : State) (i : Slot) (since : Nat), s.resetLine = false → (s.src i).statusTimer = some since →
    exec (.statusPeriodExpiry i) s = .next { setSrc i { s.src i with
      statusTimer := some (since + 100000)
      due := (s.src i).due || (s.src i).state == .live || (s.src i).state == .stale } s with
      now := max s.now (since + 100000) }) ∧
  (∀ (s : State) (i : Slot) (since : Nat), s.resetLine = false → Law2 s → CountersCapped s → (s.src i).state = .stale →
    (s.src i).silenceTimer = some since → ∃ t u, exec (.silenceExpiryLost i) s = .next t ∧
      GivenUp i true { s with now := max s.now (since + 1000000) } u ∧
      u.src i = { s.src i with
        state := .lost, silenceTimer := none, statusTimer := none, due := false, cursor := none
        screens := Vector.replicate 4 none, deskHalf := (u.src i).deskHalf } ∧
      t = (if s.steersTo i = true ∨ s.keyboard.focus = some i then reevaluate u else u) ∧
      t.src i = { s.src i with
        state := .lost, silenceTimer := none, statusTimer := none, due := false, cursor := none
        screens := Vector.replicate 4 none, deskHalf := (t.src i).deskHalf } ∧
      (∀ m v, s.image m = some v → t.image m = if v.owner = i then none else some v) ∧
      (∀ m, s.image m = none → t.image m = none) ∧
      (∀ e ∈ t.hidQueue, e.slot ≠ i) ∧
      t.counter .hidPurged = min counterTop (s.counter .hidPurged + s.hidQueue.countP fun e => e.slot == i) ∧
      t.counter .srcLost = min counterTop (s.counter .srcLost + 1) ∧ t.flagged .sourceLost = true ∧
      (∀ c, t.pointer.capture = some c → c.slot ≠ i) ∧
      (∀ c, s.pointer.capture = some c → c.slot = i → t.pointer.capture = none ∧
        t.pointer.swallowed = s.pointer.swallowed ||| s.pointer.buttons) ∧
      t.keyboard.focus ≠ some i ∧ (s.keyboard.focus = some i → t.keyboard.lock = false) ∧
      t.now = max s.now (since + 1000000))

/-- R38, R54, R55, R136, R154: a write of a slot's Subscription Table entry: equal to the old one it has no effect; an address for an ABSENT
slot makes it WAITING; any other write tears the slot down, and leaves it WAITING for the new address or ABSENT (`u`). The report then
re-evaluates the pointer if the target or the capture belonged to the slot, whatever its state was, or the slot was the focus; the focus may
move. When the report comes is DEDUCED 8. -/
def Obligations.SubscriptionChangesTearDown : Prop :=
  ∀ (s : State) (i : Slot) (new : Option Addr), Law2 s → s.resetLine = false →
    let t := subscribe i new s
    ((s.src i).addr = new → t = s) ∧
    ((s.src i).addr = none → new ≠ none → t = setSrc i { s.src i with addr := new, state := .waiting } s) ∧
    ((s.src i).addr ≠ none → (s.src i).addr ≠ new →
      (∃ u, GivenUp i false s u ∧
        u.src i = { s.src i with
          addr := new, state := if new = none then .absent else .waiting
          lastAccepted := none, half := none, changed := false, overrun := false, lamps := 0, screenCount := 0
          silenceTimer := none, statusTimer := none, due := false, cursor := none, screens := Vector.replicate 4 none
          deskHalf := (u.src i).deskHalf } ∧
        t = (if s.steersTo i = true ∨ s.keyboard.focus = some i then reevaluate u else u)) ∧
      t.src i = { s.src i with
        addr := new, state := if new = none then .absent else .waiting
        lastAccepted := none, half := none, changed := false, overrun := false, lamps := 0, screenCount := 0
        silenceTimer := none, statusTimer := none, due := false, cursor := none, screens := Vector.replicate 4 none
        deskHalf := (t.src i).deskHalf } ∧
      (∀ n : Fin 8, n ≠ 1 → (t.src i).deskHalf.get n = (s.src i).deskHalf.get n) ∧
      (∀ m v, s.image m = some v → t.image m = if v.owner = i then none else some v) ∧
      (∀ e ∈ t.hidQueue, e.slot ≠ i) ∧ (∀ c, t.pointer.capture = some c → c.slot ≠ i) ∧ t.keyboard.focus ≠ some i ∧
      (s.keyboard.focus = some i → t.keyboard.lock = false) ∧ t.counter .srcLost = s.counter .srcLost ∧
      t.flagged .sourceLost = s.flagged .sourceLost)

/-! ### Management requests: dropped, read and refused -/

/-- R23, R166: a taken request of any kind is dropped uncounted while a reset is awaited, and dropped and counted while the response queue is
full; one for all desks is offered to Port B all the same. R17, R168, R169: the refusals of the header checks of GET, GET_CLEAR and PUT,
in their order, and of a request of no known kind. A refused request changes nothing but the response queue and MG_REFUSED. -/
def Obligations.RequestsAreDroppedOrRefused : Prop :=
  (∀ (s : State) (i : Instr) (k : Byte) (r : Request), i.wellFormed = true → requestKind i = some (k, r) →
    Arrives s .a (requestCell s.node.address k r) →
    (s.resetPending = true → exec i s = .next (heardRequest k r s)) ∧
    (s.resetPending = false → 8 ≤ s.responses.length → exec i s = .next (bump .mgDropped (heardRequest k r s)))) ∧
  ((∀ (s : State) (k : Byte) (r : Request), Executes s k r → (k = 0 ∨ 10 < k.toNat) →
    exec (.unknownRequest k r) s = .next (withRefusal r .badRequest (accepted k r s))) ∧
  (∀ (s : State) (r : Request), Executes s 1 r → let u := accepted 1 r s
    ((r.table = 0 ∨ 15 < r.table.toNat) → exec (.get r) s = .next (withRefusal r .noTable u)) ∧
    ∀ t, tableOfCode r.table = some t →
      (¬(r.index.toNat < t.entries ∧ r.index.toNat + r.count.toNat ≤ t.entries) →
        exec (if r.table = 11 then .getSource r else .get r) s = .next (withRefusal r .noIndex u)) ∧
      (r.index.toNat < t.entries → r.index.toNat + r.count.toNat ≤ t.entries →
        1021 < (readEntries t r u).length → exec (.get r) s = .next (withRefusal r .badRequest u))) ∧
  (∀ (s : State) (r : Request), Executes s 3 r → let u := accepted 3 r s
    ((r.table = 0 ∨ 15 < r.table.toNat) → exec (.getClear r) s = .next (withRefusal r .noTable u)) ∧
    (r.table ≠ 0 → r.table.toNat ≤ 15 → r.table ≠ 13 → r.table ≠ 15 →
      exec (.getClear r) s = .next (withRefusal r .badRequest u)) ∧
    (r.table = 13 → ¬(r.index.toNat < 76 ∧ r.index.toNat + r.count.toNat ≤ 76) →
      exec (.getClear r) s = .next (withRefusal r .noIndex u)) ∧
    (r.table = 15 → ¬(r.index = 0 ∧ r.count.toNat ≤ 1) → exec (.getClear r) s = .next (withRefusal r .noIndex u))) ∧
  ∀ (s : State) (r : Request), Executes s 2 r → FencesSettled s → let u := accepted 2 r s
    ((r.table = 0 ∨ 15 < r.table.toNat) → exec (.put r) s = .next (withRefusal r .noTable u)) ∧
    (r.table.toNat ∈ [7, 8, 11, 12, 13, 14, 15] → exec (.put r) s = .next (withRefusal r .readOnly u)) ∧
    ∀ t, tableOfCode r.table = some t → t ∈ [Table.node, .subscribe, .forward, .screen, .layout, .hotkey, .deskHalf] →
      (¬(r.index.toNat < t.entries ∧ r.index.toNat + r.count.toNat ≤ t.entries) →
        exec (.put r) s = .next (withRefusal r .noIndex u)) ∧
      (r.index.toNat < t.entries → r.index.toNat + r.count.toNat ≤ t.entries →
        r.data.length ≠ r.count.toNat * t.entryBytes → exec (.put r) s = .next (withRefusal r .badRequest u)))

/-- R17, R45, R169: a GET reads the entries named as they stand at its execution, and a GET of SOURCE clears the changed and overrun flags of
each entry it reads. A GET of STEERING takes four free bytes for each entry (DESIGN CHOICE 1). R169, R175, R178: a GET_CLEAR of COUNTERS
or RESET_CAUSE reads, and then clears what it read. That the counters it reads, and those a GET reads, already hold its own arrival and
its copy for Port B is the model's reading (DEDUCED 13), and that a GET_CLEAR of no RESET_CAUSE entry empties nothing is another (DEDUCED
35). -/
def Obligations.ReadsAnswer : Prop :=
  ((∀ (s : State) (r : Request) (t : Table), Executes s 1 r → tableOfCode r.table = some t → inRange t r = true →
    let u := accepted 1 r s
    let data := (List.range r.count.toNat).flatMap fun k => entryBytes t u (r.index.toNat + k)
    data.length ≤ 1021 → t ≠ .source →
    exec (.get r) s = .next (withAnswer r .ok data
      (if t = .steering then { u with freeCount := u.freeCount + 4 * r.count.toNat } else u))) ∧
  ∀ (s : State) (r : Request), Executes s 1 r → r.table = 11 → inRange .source r = true →
    let u := accepted 1 r s
    let data := (List.range r.count.toNat).flatMap fun k => sourceBytes (u.src (Fin.ofNat 8 (r.index.toNat + k)))
    ∃ t, exec (.getSource r) s = .next t ∧ data.length = 53 * r.count.toNat ∧
      t = { withAnswer r .ok data u with sources := t.sources } ∧
      ∀ i, t.src i = if r.index.toNat ≤ i.val ∧ i.val < r.index.toNat + r.count.toNat
        then { s.src i with changed := false, overrun := false } else s.src i) ∧
  ((∀ (s : State) (r : Request), Executes s 3 r → r.table = 13 → inRange .counters r = true →
    let u := accepted 3 r s
    let data := (List.range r.count.toNat).flatMap fun k =>
      be32 (BitVec.ofNat 32 (u.counters.get (Fin.ofNat 76 (r.index.toNat + k))))
    ∃ t, exec (.getClear r) s = .next t ∧
      t = { withAnswer r .ok data u with counters := t.counters } ∧
      ∀ c, t.counter c = if r.index.toNat ≤ c.index.val ∧ c.index.val < r.index.toNat + r.count.toNat then 0 else u.counter c) ∧
  ∀ (s : State) (r : Request), Executes s 3 r → r.table = 15 → r.index = 0 →
    (r.count = 1 → exec (.getClear r) s =
      .next { withAnswer r .ok [s.cause.setWidth 8] (accepted 3 r s) with cause := 0 }) ∧
    (r.count = 0 → exec (.getClear r) s = .next (withAnswer r .ok [] (accepted 3 r s))))

/-- R18, R111, R119: the sizes of the entries that a GET answers with: fixed for the tables of fixed layout, and 21 bytes for each record of a
list. R17, R18, R38: the fields of each entry that a GET answers with, at their offsets, for the tables that no PUT of the same bytes
checks, and the lists and presets as runs of region records. A field that is set or present reads as 1 (DESIGN CHOICE 31). R14, R18: what
a GET answers for an entry is what a PUT of those bytes writes: a NODE, SCREEN, LAYOUT or HOTKEY entry or a region record whose fields lie
in their ranges comes back as it was. -/
def Obligations.EntriesHaveTheirLayout : Prop :=
  (∀ (s : State) (i : Nat),
    (∀ t, t ≠ .regionPending → t ≠ .regionActive → t ≠ .preset → (entryBytes t s i).length = t.entryBytes) ∧
    (∀ d : Desk, (entryBytes .regionPending s d.val).length = 1 + 21 * (s.pendingList d).length ∧
      (entryBytes .regionActive s d.val).length = 1 + 21 * (s.active d).length) ∧
    ∀ (n : Fin 8) (d : Desk), (entryBytes .preset s (4 * n.val + d.val)).length = match s.presets.get n with
      | none => 1
      | some p => 2 + 21 * (p.get d).length) ∧
  (let flag (b : Bool) : Byte := if b = true then 1 else 0
  let small (n : Nat) : Byte := BitVec.ofNat 8 n
  let address (a : Option Addr) : Word16 := match a with | none => 0 | some a => a.setWidth 16
  (∀ (s : State) (i : Slot),
    word16At (entryBytes .subscribe s i.val) 0 = address (s.src i).addr ∧
    (∀ j : Fin 8, word16At (entryBytes .deskHalf s i.val) (2 * j.val) = (s.src i).deskHalf.get j) ∧
    let e := entryBytes .source s i.val
    let x := s.src i
    word16At e 0 = address x.addr ∧
    byteAt e 2 = (match x.state with | .absent => 0 | .waiting => 1 | .live => 2 | .stale => 3 | .lost => 4) ∧
    byteAt e 3 = flag x.half.isSome ∧
    (∀ j : Fin 8, word16At e (4 + 2 * j.val) = match x.half with | none => 0 | some h => h.get j) ∧
    byteAt e 20 = flag x.changed ∧ byteAt e 21 = flag x.overrun ∧ byteAt e 22 = x.lamps.setWidth 8 ∧ byteAt e 23 = small x.screenCount ∧
    (∀ k : SrcScreen, let o := 24 + 7 * k.val
      match s.entry i k with
      | none => byteAt e o = 0 ∧ word16At e (o + 1) = 0 ∧ word16At e (o + 3) = 0 ∧ byteAt e (o + 5) = 0 ∧ byteAt e (o + 6) = 255
      | some y => byteAt e o = 1 ∧ word16At e (o + 1) = BitVec.ofNat 16 y.width ∧ word16At e (o + 3) = BitVec.ofNat 16 y.height ∧
        byteAt e (o + 5) = (match y.admission with | .notAdmitted => 0 | .admitted _ => 1 | .unusable => 2) ∧
        byteAt e (o + 6) = (match y.admission with | .notAdmitted => 255 | .admitted m => small m.val | .unusable => 255)) ∧
    byteAt e 52 = flag x.cursor.isSome) ∧
  (∀ s : State,
    (∀ n : Fin 64, word16At (entryBytes .forward s n.val) 0 = (s.forwardSet.get n).setWidth 16) ∧
    word16At (entryBytes .events s 0) 0 = s.events ∧ word16At (entryBytes .events s 0) 2 = s.node.enable ∧
    byteAt (entryBytes .resetCause s 0) 0 = s.cause.setWidth 8 ∧
    (∀ d : Desk, entryBytes .regionPending s d.val = small (s.pendingList d).length :: (s.pendingList d).flatMap regionBytes ∧
      entryBytes .regionActive s d.val = small (s.active d).length :: (s.active d).flatMap regionBytes ∧
      ∀ n : Fin 8, entryBytes .preset s (4 * n.val + d.val) = match s.presets.get n with
        | none => [0]
        | some p => 1 :: small (p.get d).length :: (p.get d).flatMap regionBytes) ∧
    let e := entryBytes .steering s 0
    let place (o : Nat) (q : Option (Desk × Byte)) : Prop :=
      match q with
      | none => byteAt e o = 0
      | some q => byteAt e o = 1 ∧ byteAt e (o + 1) = small q.1.val ∧ byteAt e (o + 2) = q.2
    let keys (o : Nat) (l : List Byte) : Prop := ∀ j : Fin 6, byteAt e (o + j.val) = l.getD j.val 0
    byteAt e 0 = (match s.pointer.screen with | none => 255 | some d => small d.val) ∧
    word16At e 1 = BitVec.ofNat 16 s.pointer.px ∧ word16At e 3 = BitVec.ofNat 16 s.pointer.py ∧
    byteAt e 5 = s.pointer.buttons.setWidth 8 ∧ byteAt e 6 = s.pointer.swallowed.setWidth 8 ∧
    place 7 s.pointer.target ∧ place 10 (s.pointer.capture.map fun c => (c.screen, c.id)) ∧
    byteAt e 13 = (match s.keyboard.focus with | none => 255 | some i => small i.val) ∧
    byteAt e 14 = flag s.keyboard.lock ∧ byteAt e 15 = s.keyboard.modifiers ∧
    keys 16 s.keyboard.keys ∧ keys 22 s.keyboard.forwarded ∧ keys 28 s.keyboard.swallowed ∧
    byteAt e 34 = s.keyboard.lamps.setWidth 8)) ∧
  ((∀ n : NodeTable, 1 ≤ n.qualityHigh → n.qualityHigh ≤ 255 → n.qualityLow ≤ n.qualityHigh → 60 ≤ n.ageLimit → n.ageLimit ≤ 4096 →
    n.speed ≤ 15 → nodeOf n (nodeBytes n) = n ∧ nodeClamped (nodeBytes n) = false ∧
      word16At (nodeBytes n) 0 = n.address.setWidth 16) ∧
  (∀ e : ScreenSettings, e.inRange → screenOf e (screenBytes e) = e ∧ screenClamped (screenBytes e) = false) ∧
  (∀ e : LayoutEntry, (∀ l ∈ [e.right, e.left, e.top, e.bottom], -2160 ≤ l.offset ∧ l.offset ≤ 2160) →
    (⟨layoutLinkAt (layoutBytes e) 0, layoutLinkAt (layoutBytes e) 3, layoutLinkAt (layoutBytes e) 6,
      layoutLinkAt (layoutBytes e) 9⟩ : LayoutEntry) = e ∧
      layoutRefused (layoutBytes e) = false ∧ layoutClamped (layoutBytes e) = false) ∧
  (∀ b : List Byte, hotkeyRefused b = false → hotkeyOf (hotkeyBytes (hotkeyOf b)) = hotkeyOf b ∧
    hotkeyRefused (hotkeyBytes (hotkeyOf b)) = false ∧ hotkeyClamped (hotkeyBytes (hotkeyOf b)) = false) ∧
  ∀ r : Region, r.x < 65536 → r.y < 65536 → r.w < 65536 → r.h < 65536 →
    (∀ p, r.source = some p → p.u0 ≤ 3839 ∧ p.v0 ≤ 2159 ∧ -3 ≤ p.z ∧ p.z ≤ 3) →
    regionOf (regionBytes r) = r ∧ regionClamped (regionBytes r) = false)

/-! ### Management requests: written tables -/

/-- That the row PUT, with the code of a table that takes writes, does what that table's own row does is the model's choice (DESIGN CHOICE 29:
the two rows are one request). So, by that choice, a PUT of good FORWARD entries (R20, R171) is answered OK and writes every entry named,
no other, and nothing else. R20, R171, R172, R173, R47: a PUT to FORWARD, LAYOUT or DESK_HALF: refused whole for one bad entry, and
otherwise every entry named is written and no other; a written desk half makes its slot due when it is LIVE or STALE. R156: a PUT to
HOTKEY. An invalid entry is stored as received; a valid one of a bad key or action refuses the PUT; of the others the argument is clamped,
masked or cleared by the action. -/
def Obligations.PutsWriteTheirEntries : Prop :=
  ((∀ (s : State) (r : Request),
    (r.table = 1 → exec (.put r) s = exec (.putNode r) s) ∧ (r.table = 2 → exec (.put r) s = exec (.putSubscribe r) s) ∧
    (r.table = 3 → exec (.put r) s = exec (.putForward r) s) ∧ (r.table = 4 → exec (.put r) s = exec (.putScreen r) s) ∧
    (r.table = 5 → exec (.put r) s = exec (.putLayout r) s) ∧ (r.table = 6 → exec (.put r) s = exec (.putRegionPending r) s) ∧
    (r.table = 9 → exec (.put r) s = exec (.putHotkey r) s) ∧ (r.table = 10 → exec (.put r) s = exec (.putDeskHalf r) s)) ∧
  ∀ (s : State) (r : Request), WriteArrives s 3 .forward r →
    let word (k : Nat) : Word16 := byteAt r.data (2 * k) ++ byteAt r.data (2 * k + 1)
    (∀ k, k < r.count.toNat → (word k).toNat ≤ 4094) → ∃ t, exec (.put r) s = .next t ∧
      t = { withAnswer r .ok [] (accepted 2 r s) with forwardSet := t.forwardSet } ∧
      ∀ n, t.forwardSet.get n = if r.index.toNat ≤ n.val ∧ n.val < r.index.toNat + r.count.toNat
        then (word (n.val - r.index.toNat)).setWidth 12 else s.forwardSet.get n) ∧
  ((∀ (s : State) (r : Request), WriteArrives s 3 .forward r →
    let u := accepted 2 r s
    let word (k : Nat) : Word16 := byteAt r.data (2 * k) ++ byteAt r.data (2 * k + 1)
    ((∃ k, k < r.count.toNat ∧ 4094 < (word k).toNat) → exec (.putForward r) s = .next (withRefusal r .badValue u)) ∧
    ((∀ k, k < r.count.toNat → (word k).toNat ≤ 4094) → ∃ t, exec (.putForward r) s = .next t ∧
      t = { withAnswer r .ok [] u with forwardSet := t.forwardSet } ∧
      ∀ n, t.forwardSet.get n = if r.index.toNat ≤ n.val ∧ n.val < r.index.toNat + r.count.toNat
        then (word (n.val - r.index.toNat)).setWidth 12 else s.forwardSet.get n)) ∧
  (∀ (s : State) (r : Request), WriteArrives s 5 .layout r →
    let u := accepted 2 r s
    let b (k j : Nat) : Byte := byteAt r.data (12 * k + j)
    let off (k j : Nat) : Int := (b k (j + 1) ++ b k (j + 2)).toInt
    let link (k j : Nat) : LayoutLink := ⟨neighbourOf (b k j), max (-2160) (min 2160 (off k j))⟩
    let bad := ∃ k j, k < r.count.toNat ∧ j ∈ [0, 3, 6, 9] ∧ 3 < (b k j).toNat ∧ b k j ≠ 255
    let clamped := ∃ k j, k < r.count.toNat ∧ j ∈ [0, 3, 6, 9] ∧ (off k j < -2160 ∨ 2160 < off k j)
    (bad → exec (.putLayout r) s = .next (withRefusal r .badValue u)) ∧
    (¬bad → ∃ t v, exec (.putLayout r) s = .next t ∧
      (clamped → t = withAnswer r .clamped [] (setFlag .valueClamped v)) ∧ (¬clamped → t = withAnswer r .ok [] v) ∧
      v = { u with layout := v.layout } ∧
      ∀ d, v.layout.get d = if r.index.toNat ≤ d.val ∧ d.val < r.index.toNat + r.count.toNat
        then let k := d.val - r.index.toNat
          ⟨link k 0, link k 3, link k 6, link k 9⟩
        else s.layout.get d)) ∧
  ∀ (s : State) (r : Request), WriteArrives s 10 .deskHalf r →
    let u := accepted 2 r s
    let word (k j : Nat) : Word16 := byteAt r.data (16 * k + 2 * j) ++ byteAt r.data (16 * k + 2 * j + 1)
    let named (i : Slot) : Prop := r.index.toNat ≤ i.val ∧ i.val < r.index.toNat + r.count.toNat
    let bad := ∃ i, named i ∧ ((s.src i).deskHalf.get 0 ≠ word (i.val - r.index.toNat) 0 ∨
      (s.src i).deskHalf.get 1 ≠ word (i.val - r.index.toNat) 1)
    (bad → exec (.putDeskHalf r) s = .next (withRefusal r .readOnly u)) ∧
    (¬bad → ∃ t, exec (.putDeskHalf r) s = .next t ∧
      t = { withAnswer r .ok [] u with sources := t.sources } ∧
      ∀ i, (¬named i → t.src i = s.src i) ∧
        (named i → t.src i = { s.src i with
            deskHalf := (t.src i).deskHalf
            due := (s.src i).due || (s.src i).state == .live || (s.src i).state == .stale } ∧
          ∀ j : Fin 8, (t.src i).deskHalf.get j = word (i.val - r.index.toNat) j.val))) ∧
  (∀ (s : State) (r : Request), WriteArrives s 9 .hotkey r →
    let u := accepted 2 r s
    let b (k j : Nat) : Byte := byteAt r.data (5 * k + j)
    let valid (k : Nat) : Prop := k < r.count.toNat ∧ b k 0 ≠ 0
    let bad := ∃ k, valid k ∧ (b k 2 = 0 ∨ b k 2 = 1 ∨ (0xE0 ≤ (b k 2).toNat ∧ (b k 2).toNat ≤ 0xE7) ∨ b k 3 = 0 ∨ 7 < (b k 3).toNat)
    let clamped := ∃ k, valid k ∧ b k 3 = 1 ∧ 7 < (b k 4).toNat
    let argument (k : Nat) : Byte :=
      if b k 0 = 0 then b k 4
      else if b k 3 = 1 then (if 7 < (b k 4).toNat then 7 else b k 4)
      else if b k 3 = 4 ∨ b k 3 = 5 then b k 4 &&& 0x0F
      else 0
    (bad → exec (.putHotkey r) s = .next (withRefusal r .badValue u)) ∧
    (¬bad → ∃ t v, exec (.putHotkey r) s = .next t ∧
      (clamped → t = withAnswer r .clamped [] (setFlag .valueClamped v)) ∧ (¬clamped → t = withAnswer r .ok [] v) ∧
      v = { u with keyboard := { s.keyboard with hotkeys := v.keyboard.hotkeys } } ∧
      ∀ n : Fin 16, v.keyboard.hotkeys.get n = if r.index.toNat ≤ n.val ∧ n.val < r.index.toNat + r.count.toNat
        then let k := n.val - r.index.toNat
          ⟨b k 0 != 0, b k 1, b k 2, b k 3, argument k⟩
        else s.keyboard.hotkeys.get n))

/-- R170, R176: a PUT to NODE: refused if it would change the node address; otherwise each field is clamped and takes effect, and a flag that
is set and newly enabled makes an EVENT cell pending. VALUE_CLAMPED is set with the enable set as newly written (DEDUCED 14). -/
def Obligations.PutNodeWrites : Prop :=
  ∀ (s : State) (r : Request), WriteArrives s 1 .node r →
    let u := accepted 2 r s
    let b (k : Nat) : Nat := (byteAt r.data k).toNat
    let age := 256 * b 5 + b 6
    let high := max 1 (b 3)
    let n : NodeTable := {
      address := s.node.address, shortLock := b 2 != 0, qualityHigh := high, qualityLow := min high (b 4)
      ageLimit := max 60 (min 4096 age), speed := min 15 (b 7), enable := word16At r.data 8
      background := ⟨byteAt r.data 10, byteAt r.data 11, byteAt r.data 12⟩ }
    let written := { u with
      node := n, eventPending := u.eventPending || (n.enable &&& ~~~s.node.enable &&& u.events) != 0 }
    (r.count = 0 → exec (.putNode r) s = .next (withAnswer r .ok [] u)) ∧
    (r.count = 1 → word16At r.data 0 ≠ s.node.address.setWidth 16 →
      exec (.putNode r) s = .next (withRefusal r .readOnly u)) ∧
    (r.count = 1 → word16At r.data 0 = s.node.address.setWidth 16 →
      let clamped := b 3 = 0 ∨ high < b 4 ∨ age < 60 ∨ 4096 < age ∨ 15 < b 7
      (¬clamped → exec (.putNode r) s = .next (withAnswer r .ok [] written)) ∧
      (clamped → exec (.putNode r) s = .next (withAnswer r .clamped [] (setFlag .valueClamped written))))

/-- R19, R54, R171: a PUT to SUBSCRIBE: refused whole for an address above 4094 or if it would leave one address in two slots; otherwise each
entry is handled as SubscriptionChangesTearDown states, in index order, one after another (DEDUCED 17); also where an address moves to a
lower-numbered slot, whose entry is then handled before the old slot is torn down (DEDUCED 38). -/
def Obligations.PutSubscribeWrites : Prop :=
  ∀ (s : State) (r : Request), WriteArrives s 2 .subscribe r →
    let u := accepted 2 r s
    let word (k : Nat) : Word16 := byteAt r.data (2 * k) ++ byteAt r.data (2 * k + 1)
    let addr (k : Nat) : Option Addr := if word k = 0 then none else some ((word k).setWidth 12)
    let after (i : Slot) : Option Addr :=
      if r.index.toNat ≤ i.val ∧ i.val < r.index.toNat + r.count.toNat then addr (i.val - r.index.toNat) else (s.src i).addr
    let bad := (∃ k, k < r.count.toNat ∧ 4094 < (word k).toNat) ∨ ∃ i j a, i < j ∧ after i = some a ∧ after j = some a
    (bad → exec (.putSubscribe r) s = .next (withRefusal r .badValue u)) ∧
    (¬bad → exec (.putSubscribe r) s = .next (withAnswer r .ok []
      ((List.range r.count.toNat).foldl (fun v k => subscribe (Fin.ofNat 8 (r.index.toNat + k)) (addr k) v) u)))

/-- R89 to R91, R115, R116, R122, R139 to R141, R172: a PUT to SCREEN, under the laws that its states keep: the clamped settings of every screen
named; a picture begins on a screen enabled, resized or given another rate; a pending swap is taken there, and at a disabling write. The
entries are written in index order (`written`). Then, if the pointer screen was disabled, a capture in force breaks and the pointer stands at
the centre of the lowest-numbered enabled screen, or is absent at (0, 0) with none enabled; a pointer that was absent is placed in the same
way once a screen is enabled; the residues are 0 and the target is re-evaluated. Otherwise the pointer stays as the entries leave it. One
entry that resizes the enabled pointer screen clamps the pointer to the new size and re-evaluates before the swap of its vertical start
(R141); one that disables a screen takes the swap first (DEDUCED 34 on the size that swap sees). The fences made due are answered after the
response (DEDUCED 27). Nothing of the sources' images, the presets or the pending lists changes. -/
def Obligations.PutScreenWrites : Prop :=
  (∀ (s : State) (r : Request), WriteArrives s 4 .screen r → ScreensInRange s → Law6 s → Law10 s →
    let b (k j : Nat) : Nat := (byteAt r.data (8 * k + j)).toNat
    let width (k : Nat) : Nat := max 1280 (min 3840 (256 * b k 1 + b k 2)) / 8 * 8
    let height (k : Nat) : Nat := max 720 (min 2160 (256 * b k 3 + b k 4)) / 8 * 8
    let rate (k : Nat) : Nat := max 24 (min 120 (b k 5))
    let clamped := ∃ k, k < r.count.toNat ∧
      (width k ≠ 256 * b k 1 + b k 2 ∨ height k ≠ 256 * b k 3 + b k 4 ∨ rate k ≠ b k 5)
    let named (d : Desk) : Prop := r.index.toNat ≤ d.val ∧ d.val < r.index.toNat + r.count.toNat
    ∃ t, exec (.putScreen r) s = .next t ∧
      (let written := (putEntries .screen r).foldl (fun v q => writeScreen q.1 q.2 v) (accepted 2 r s)
        let broken := match written.pointer.capture with
          | none => written
          | some c => breakCapture c written
        let placed (d : Option Desk) (x y : Nat) : State :=
          reevaluate { broken with pointer := { broken.pointer with screen := d, px := x, py := y, residueX := 0, residueY := 0 } }
        let answered (v : State) : State := answerDueFences
          (if clamped then withAnswer r .clamped [] (setFlag .valueClamped v) else withAnswer r .ok [] v)
        let leaves := ∃ d, s.pointer.screen = some d ∧ (t.screen d).enabled = false
        (leaves ∨ s.pointer.screen = none →
          ∀ d, (t.screen d).enabled = true → (∀ d', d' < d → (t.screen d').enabled = false) →
            t = answered (placed (some d) ((t.screen d).width / 2) ((t.screen d).height / 2))) ∧
        (leaves → (∀ d, (t.screen d).enabled = false) → t = answered (placed none 0 0)) ∧
        (s.pointer.screen = none → (∀ d, (t.screen d).enabled = false) → t = answered written) ∧
        (∀ d, s.pointer.screen = some d → (t.screen d).enabled = true → t = answered written)) ∧
      (∀ d, ¬named d → t.screen d = s.screen d ∧ t.active d = s.active d ∧ t.swapWaits d = s.swapWaits d) ∧
      (∀ d, named d → let k := d.val - r.index.toNat
        let restarts := (s.screen d).enabled = false ∨ (s.screen d).width ≠ width k ∨ (s.screen d).height ≠ height k ∨
          (s.screen d).rate ≠ rate k
        t.screen d = {
          enabled := b k 0 != 0, width := width k, height := height k, rate := rate k, blank := b k 6 != 0, identify := b k 7 != 0
          picture := if b k 0 = 0 then none else if restarts then some s.now else (s.screen d).picture } ∧
        ((b k 0 = 0 ∨ restarts) → s.swapWaits d = true → t.swapWaits d = false ∧ t.active d = s.pendingList d) ∧
        (¬((b k 0 = 0 ∨ restarts) ∧ s.swapWaits d = true) → t.swapWaits d = s.swapWaits d ∧ t.active d = s.active d)) ∧
      t.responses.take (s.responses.length + 1) =
        s.responses ++ [answerOf r (if clamped then .clamped else .ok) []] ∧
      (clamped → t.flagged .valueClamped = true) ∧
      (∀ d, t.pointer.screen = some d → (t.screen d).enabled = true ∧ t.pointer.px < (t.screen d).width ∧
        t.pointer.py < (t.screen d).height) ∧
      (t.pointer.screen = none → ∀ d, (t.screen d).enabled = false) ∧
      t.pendingLists = s.pendingLists ∧ t.presets = s.presets ∧ t.images = s.images ∧ t.imageMem = s.imageMem ∧
      t.layout = s.layout ∧ t.node = s.node ∧ t.forwardSet = s.forwardSet ∧ t.pointer.buttons = s.pointer.buttons ∧
      ∀ i, t.src i = { s.src i with deskHalf := (t.src i).deskHalf, due := (t.src i).due } ∧
        ∀ n : Fin 8, n ≠ 1 → (t.src i).deskHalf.get n = (s.src i).deskHalf.get n) ∧
  ∀ (s : State) (d : Desk) (e : List Byte),
    let b (j : Nat) : Nat := (byteAt e j).toNat
    let old := s.screen d
    let new (picture : Option Nat) : ScreenSettings := {
      enabled := b 0 != 0, width := max 1280 (min 3840 (256 * b 1 + b 2)) / 8 * 8
      height := max 720 (min 2160 (256 * b 3 + b 4)) / 8 * 8, rate := max 24 (min 120 (b 5)), blank := b 6 != 0, identify := b 7 != 0
      picture := picture }
    let sized := old.width ≠ (new none).width ∨ old.height ≠ (new none).height
    let v := writeScreen d.val e s
    (old.enabled = false → b 0 = 0 → v = setScreen d (new old.picture) s) ∧
    (old.enabled = false → b 0 ≠ 0 → v = takeSwap false d (setScreen d (new (some s.now)) s)) ∧
    (old.enabled = true → b 0 = 0 → v = setScreen d (new none) (takeSwap false d s)) ∧
    (old.enabled = true → b 0 ≠ 0 →
      (¬sized → old.rate = (new none).rate → v = setScreen d (new old.picture) s) ∧
      (¬sized → old.rate ≠ (new none).rate → v = takeSwap false d (setScreen d (new (some s.now)) s)) ∧
      (sized → s.pointer.screen ≠ some d → v = takeSwap false d (setScreen d (new (some s.now)) s)) ∧
      (sized → s.pointer.screen = some d →
        v = takeSwap false d (setScreen d (new (some s.now)) (reevaluate { setScreen d (new old.picture) s with
          pointer := { s.pointer with
            px := min s.pointer.px ((new none).width - 1), py := min s.pointer.py ((new none).height - 1) } }))))

/-- R92, R93, R112, R113: a PUT to REGION_PENDING, with its checks in their order; a good list replaces the screen's pending list, in the order
received, with its clamped fields, and nothing else. -/
def Obligations.PutRegionPendingWrites : Prop :=
  ∀ (s : State) (r : Request), r.table = 6 → Executes s 2 r →
    let u := accepted 2 r s
    let e (k j : Nat) : Byte := byteAt r.data (21 * k + j)
    let n (k j : Nat) : Nat := 256 * (e k j).toNat + (e k (j + 1)).toNat
    let z (k : Nat) : Int := (e k 16).toInt
    let bounds (d : Desk) : Nat × Nat := if (s.screen d).enabled then ((s.screen d).width, (s.screen d).height) else (3840, 2160)
    let bad (d : Desk) : Prop := ∃ k, k < r.count.toNat ∧
      (e k 0 = 0 ∨ (∃ k', k' < k ∧ e k' 0 = e k 0) ∨ n k 5 < 16 ∨ n k 7 < 16 ∨
        (bounds d).1 < n k 1 + n k 5 ∨ (bounds d).2 < n k 3 + n k 7 ∨
        (e k 9 ≠ 0 ∧ (7 < (e k 10).toNat ∨ 3 < (e k 11).toNat)))
    let region (k : Nat) : Region := {
      id := e k 0, x := n k 1, y := n k 3, w := n k 5, h := n k 7
      source := if e k 9 = 0 then none else
        some ⟨Fin.ofNat 8 (e k 10).toNat, Fin.ofNat 4 (e k 11).toNat, min 3839 (n k 12), min 2159 (n k 14),
          max (-3) (min 3 (z k))⟩
      input := e k 17 != 0, fill := ⟨e k 18, e k 19, e k 20⟩ }
    let clamped := ∃ k, k < r.count.toNat ∧ e k 9 ≠ 0 ∧ (3839 < n k 12 ∨ 2159 < n k 14 ∨ z k < -3 ∨ 3 < z k)
    (4 ≤ r.index.toNat → exec (.putRegionPending r) s = .next (withRefusal r .noIndex u)) ∧
    (∀ d : Desk, r.index.toNat = d.val →
      (16 < r.count.toNat →
        exec (.putRegionPending r) s = .next (withRefusal r .badValue (bump .vcListsRefused u))) ∧
      (r.count.toNat ≤ 16 → r.data.length ≠ 21 * r.count.toNat →
        exec (.putRegionPending r) s = .next (withRefusal r .badRequest u)) ∧
      (r.count.toNat ≤ 16 → r.data.length = 21 * r.count.toNat → bad d →
        exec (.putRegionPending r) s = .next (withRefusal r .badValue (bump .vcListsRefused u))) ∧
      (r.count.toNat ≤ 16 → r.data.length = 21 * r.count.toNat → ¬bad d →
        let v := setPendingList d ((List.range r.count.toNat).map region) u
        (¬clamped → exec (.putRegionPending r) s = .next (withAnswer r .ok [] v)) ∧
        (clamped → exec (.putRegionPending r) s = .next (withAnswer r .clamped [] (setFlag .valueClamped v)))))

/-! ### Views, presets and fences -/

/-- R90, R91, R115, R117, R118, R122: a swap takes effect on a screen, and a vertical start takes a pending one. `v` is the state before the
fences are answered: the list, the VIEWING flags of all slots (which make a heard slot due), the awaited sets. Then the due fences are
answered (within a management request: after its own response), SWAP_DONE is set, and the pointer is re-evaluated if it stands on the
screen. The picture period is counted in whole microseconds (DESIGN CHOICE 12), and that VERTICAL_START moves the clock to the picture's end, or leaves it later, is
the model's choice too (DESIGN CHOICE 11). -/
def Obligations.SwapsTakeEffect : Prop :=
  (∀ (s : State) (d : Desk) (now : Bool), ∃ v w,
    (∀ e, v.active e = if e = d then s.pendingList d else s.active e) ∧
    (∀ e, v.swapWaits e = if e = d then false else s.swapWaits e) ∧
    (∀ i, v.halfFlag i .viewing = true ↔ ∃ e r p, r ∈ v.active e ∧ r.source = some p ∧ p.slot = i) ∧
    (∀ i g, g ≠ .viewing → v.halfFlag i g = s.halfFlag i g) ∧
    (∀ i, v.src i = { s.src i with deskHalf := (v.src i).deskHalf, due := (v.src i).due } ∧
      (∀ n : Fin 8, n ≠ 1 → (v.src i).deskHalf.get n = (s.src i).deskHalf.get n) ∧
      (v.src i).due = ((s.src i).due || (s.heard i && v.halfFlag i .viewing != s.halfFlag i .viewing))) ∧
    v.fences = s.fences.map (fun f => { f with awaited := f.awaited &&& ~~~BitVec.twoPow 4 d.val }) ∧
    v = { s with activeLists := v.activeLists, swapPending := v.swapPending, sources := v.sources, fences := v.fences } ∧
    Flagged [.swapDone] (if now then answerDueFences v else v) w ∧
    w = { bump .vcSwaps (if now then answerDueFences v else v) with events := w.events, eventPending := w.eventPending } ∧
    swapEffect now d s = if s.pointer.screen = some d then reevaluate w else w) ∧
  ∀ (s : State) (d : Desk) (t : Nat), s.resetLine = false → (s.screen d).enabled = true → (s.screen d).picture = some t →
    let now := max s.now (t + 1000000 / (s.screen d).rate)
    let u := { setScreen d { s.screen d with picture := some now } s with now := now }
    exec (.verticalStart d) s = .next (if s.swapWaits d then swapEffect true d u else u)

/-- R114, R118, R120: a swap requested on the screens of a mask. On enabled screens the flag becomes set or the request folds into it; on
disabled ones the swap takes effect at once. The pointer stands on no disabled screen, no fence awaits one, and no fence is due. R114,
R119, R120: SWAP, PRESET_STORE and PRESET_LOAD; a swap requested does what SwapsAreRequested states. -/
def Obligations.SwapsAreRequested : Prop :=
  (∀ (s : State) (mask : BitVec 4) (now : Bool), Law6 s → Law10 s → FencesSettled s → CountersCapped s →
    let t := requestSwap now mask s
    let named (d : Desk) : Bool := mask.getLsbD d.val
    let takes := allDesks4.filter fun d => named d && !(s.screen d).enabled
    let folds := allDesks4.filter fun d => named d && (s.screen d).enabled && s.swapWaits d
    (∀ d, t.swapWaits d = (s.swapWaits d || (named d && (s.screen d).enabled))) ∧
    (∀ d, t.active d = if d ∈ takes then s.pendingList d else s.active d) ∧
    (∀ i, takes ≠ [] → (t.halfFlag i .viewing = true ↔ ∃ e r p, r ∈ t.active e ∧ r.source = some p ∧ p.slot = i)) ∧
    (∀ i g, (takes = [] ∨ g ≠ .viewing) → t.halfFlag i g = s.halfFlag i g) ∧
    (∀ i, t.src i = { s.src i with deskHalf := (t.src i).deskHalf, due := (t.src i).due }) ∧
    (∀ i, ∀ n : Fin 8, n ≠ 1 → (t.src i).deskHalf.get n = (s.src i).deskHalf.get n) ∧
    Tallied (List.replicate takes.length .vcSwaps ++ List.replicate folds.length .vcSwapsCoalesced) s t ∧
    Flagged (List.replicate takes.length .swapDone) s t ∧
    t = { s with
      activeLists := t.activeLists, swapPending := t.swapPending, sources := t.sources, counters := t.counters
      events := t.events, eventPending := t.eventPending }) ∧
  ((∀ (s : State) (r : Request), Executes s 4 r → Law6 s → Law10 s → FencesSettled s →
    exec (.swap r) s = .next (withAnswer r .ok [] (requestSwap false (r.index.setWidth 4) (accepted 4 r s)))) ∧
  (∀ (s : State) (r : Request), Executes s 6 r → let u := accepted 6 r s
    (7 < r.index.toNat → exec (.presetStore r) s = .next (withRefusal r .noIndex u)) ∧
    (∀ n : Fin 8, r.index.toNat = n.val → ∃ t, exec (.presetStore r) s = .next t ∧
      t = { withAnswer r .ok [] u with presets := t.presets } ∧
      ∀ m, t.presets.get m = if m = n then some s.activeLists else s.presets.get m)) ∧
  ∀ (s : State) (r : Request), Executes s 7 r → Law6 s → Law10 s → FencesSettled s → let u := accepted 7 r s
    (7 < r.index.toNat → exec (.presetLoad r) s = .next (withRefusal r .noIndex u)) ∧
    ∀ n : Fin 8, r.index.toNat = n.val →
      (s.presets.get n = none → exec (.presetLoad r) s = .next (withRefusal r .empty u)) ∧
      ∀ p, s.presets.get n = some p →
        exec (.presetLoad r) s = .next (withAnswer r .ok [] (requestSwap false 0b1111 { u with pendingLists := p })))

/-- R17, R121, R174, R177, R180: FENCE, CLEAR_EVENTS, DESCRIBE and NODE_RESET. -/
def Obligations.RequestsWithoutTables : Prop :=
  (∀ (s : State) (r : Request), Executes s 5 r → let u := accepted 5 r s
    ((∀ d, s.swapWaits d = false) → exec (.fence r) s = .next (withAnswer r .ok [] u)) ∧
    ∀ m : BitVec 4, (∀ d : Desk, m.getLsbD d.val = s.swapWaits d) → m ≠ 0 →
      (s.fences.length < 4 → exec (.fence r) s = .next { u with fences := s.fences ++ [⟨r.tag, r.origin, m⟩] }) ∧
      (4 ≤ s.fences.length → exec (.fence r) s = .next (withRefusal r .busy (bump .vcFenceBusy u)))) ∧
  (∀ (s : State) (r : Request), Executes s 8 r → let u := accepted 8 r s
    ∃ t, exec (.clearEvents r) s = .next t ∧ t = { withAnswer r .ok [] u with events := t.events } ∧
      ∀ f, t.flagged f = (u.flagged f && !r.index.getLsbD f.bit)) ∧
  (∀ (s : State) (r : Request), Executes s 9 r →
    let records (v : Vector (List Region) 4) : Nat := (v.get 0).length + (v.get 1).length + (v.get 2).length + (v.get 3).length
    let sizes : List (Nat × Nat) := [
      (1, 1), (8, (allSlots.filter fun i => (s.src i).addr != none).length), (64, s.forwardSet.toList.countP fun a => a != 0),
      (4, (allDesks4.filter fun d => (s.screen d).enabled).length), (4, 4), (64, records s.pendingLists), (64, records s.activeLists),
      (8, s.presets.toList.countP fun p => p != none), (16, s.keyboard.hotkeys.toList.countP fun h => h.valid), (8, 8),
      (8, (allSlots.filter fun i => (s.src i).state != .absent).length), (1, 1), (76, 76), (1, 1), (1, 1)]
    exec (.describe r) s = .next (withAnswer r .ok ([0x4C, 0x24, 0x40, 1] ++
      sizes.flatMap fun z => be16 (BitVec.ofNat 16 z.1) ++ be16 (BitVec.ofNat 16 z.2)) (accepted 9 r s))) ∧
  ∀ (s : State) (r : Request), Executes s 10 r → exec (.nodeReset r) s = .next { accepted 10 r s with
    responses := s.responses ++ [⟨r.tag, .ok, [], r.origin, true⟩], resetPending := true }

/-! ### The pointer -/

/-- R127, R144: a desk pointer report does its steps in order, with its values clamped. R133, R134: the buttons of a report, and the end of a
capture by release. A starting capture's coordinates read 0 until the entry of the same report records them (DESIGN CHOICE 23). -/
def Obligations.PointerReports : Prop :=
  (∀ (s : State) (buttons : Byte) (dx dy wheel : Int), s.resetLine = false → CountersCapped s →
    let clamp (x : Int) : Int := max (-127) (min 127 x)
    let clamped := ¬((-127 ≤ dx ∧ dx ≤ 127) ∧ (-127 ≤ dy ∧ dy ≤ 127) ∧ -127 ≤ wheel ∧ wheel ≤ 127)
    ∃ u, Tallied (if clamped then [.psReports, .psClamped] else [.psReports]) s u ∧ u = { s with counters := u.counters } ∧
      exec (.deskPointerReport buttons dx dy wheel) s = .next (endIfReleased (reportPointer s.pointer (clamp wheel)
        (handleButtons (buttons.setWidth 5) (reevaluate (applyMotion (clamp dx) (clamp dy) u)))))) ∧
  ((∀ (s : State) (b : BitVec 5), CountersCapped s →
    let old := s.pointer.buttons
    let pressed := b &&& ~~~old
    let released := old &&& ~~~b
    let t := handleButtons b s
    (pressed = 0 ∨ s.pointer.capture ≠ none →
      t = { s with pointer := { s.pointer with buttons := b, swallowed := s.pointer.swallowed &&& ~~~released } }) ∧
    (∀ d r p, pressed ≠ 0 → s.pointer.capture = none → s.pointer.screen = some d → s.routableTarget = some (r, p) → old = 0 →
      Tallied [.psCaptures] s t ∧
      t = { setHalfFlag p.slot .capture true s with counters := t.counters, pointer := { s.pointer with
        buttons := b, swallowed := s.pointer.swallowed &&& ~~~released, residueX := 0, residueY := 0
        capture := some ⟨d, r.id, p.slot, p.screen, 0, 0⟩ } }) ∧
    (pressed ≠ 0 → s.pointer.capture = none → (s.pointer.screen = none ∨ s.routableTarget = none ∨ old ≠ 0) →
      Tallied (([0, 1, 2, 3, 4].filter fun k => pressed.getLsbD k).map fun _ => .psSwallowed) s t ∧
      t = { s with counters := t.counters, pointer := { s.pointer with
        buttons := b, swallowed := (s.pointer.swallowed ||| pressed) &&& ~~~released } })) ∧
  ∀ s : State,
    ((s.pointer.capture = none ∨ s.pointer.buttons ≠ 0) → endIfReleased s = s) ∧
    ∀ c, s.pointer.capture = some c → s.pointer.buttons = 0 →
      endIfReleased s = reevaluate (setHalfFlag c.slot .capture false
        { s with pointer := { s.pointer with capture := none, residueX := 0, residueY := 0 } }))

/-- R128: the move and the residue of one axis, and their bounds. R128 to R131: the motion applied. Outside a capture the x move and then the
y move each stay on the screen, cross to an enabled neighbour with the offset added to the other coordinate, or stop at the edge; a
crossing makes the residues 0 and counts when the screen changes (a screen that is its own neighbour wraps the pointer uncounted, DEDUCED
16). During a capture both moves stay in its rectangle. -/
def Obligations.PointerMoves : Prop :=
  (∀ (level : Nat) (residue delta : Int), level ≤ 15 → -15 ≤ residue → residue ≤ 15 → -127 ≤ delta → delta ≤ 127 →
    let acc := residue + delta * (4 + 2 * level)
    let m := moveAxis level residue delta
    m.1 * 16 + m.2 = acc ∧ -15 ≤ m.2 ∧ m.2 ≤ 15 ∧ (0 ≤ acc → 0 ≤ m.2) ∧ (acc ≤ 0 → m.2 ≤ 0) ∧ -270 ≤ m.1 ∧ m.1 ≤ 270) ∧
  ((∀ (s : State) (d : Desk) (move : Int), ScreensInRange s → s.pointer.px < (s.screen d).width → -270 ≤ move → move ≤ 270 →
    let x := (s.pointer.px : Int) + move
    let width := (s.screen d).width
    let way (l : LayoutLink) : Option Desk := l.neighbour.filter fun n => (s.screen n).enabled
    let into (n : Desk) (px off : Int) : State :=
      { (if d = n then s else bump .psCrossings s) with
        pointer := { s.pointer with
          screen := some n, px := px.toNat, py := (max 0 (min (((s.screen n).height : Int) - 1) (s.pointer.py + off))).toNat
          residueX := 0, residueY := 0 } }
    (0 ≤ x → x < width → moveX d move s = { s with pointer := { s.pointer with px := x.toNat } }) ∧
    (∀ n, width ≤ x → way (s.layout.get d).right = some n →
      moveX d move s = into n (x - width) (s.layout.get d).right.offset) ∧
    (∀ n, x < 0 → way (s.layout.get d).left = some n →
      moveX d move s = into n (x + (s.screen n).width) (s.layout.get d).left.offset) ∧
    (width ≤ x → way (s.layout.get d).right = none →
      moveX d move s = { s with pointer := { s.pointer with px := width - 1 } }) ∧
    (x < 0 → way (s.layout.get d).left = none → moveX d move s = { s with pointer := { s.pointer with px := 0 } })) ∧
  (∀ (s : State) (d : Desk) (move : Int), ScreensInRange s → s.pointer.py < (s.screen d).height → -270 ≤ move → move ≤ 270 →
    let y := (s.pointer.py : Int) + move
    let height := (s.screen d).height
    let way (l : LayoutLink) : Option Desk := l.neighbour.filter fun n => (s.screen n).enabled
    let into (n : Desk) (py off : Int) : State :=
      { (if d = n then s else bump .psCrossings s) with
        pointer := { s.pointer with
          screen := some n, py := py.toNat, px := (max 0 (min (((s.screen n).width : Int) - 1) (s.pointer.px + off))).toNat
          residueX := 0, residueY := 0 } }
    (0 ≤ y → y < height → moveY d move s = { s with pointer := { s.pointer with py := y.toNat } }) ∧
    (∀ n, height ≤ y → way (s.layout.get d).bottom = some n →
      moveY d move s = into n (y - height) (s.layout.get d).bottom.offset) ∧
    (∀ n, y < 0 → way (s.layout.get d).top = some n →
      moveY d move s = into n (y + (s.screen n).height) (s.layout.get d).top.offset) ∧
    (height ≤ y → way (s.layout.get d).bottom = none →
      moveY d move s = { s with pointer := { s.pointer with py := height - 1 } }) ∧
    (y < 0 → way (s.layout.get d).top = none → moveY d move s = { s with pointer := { s.pointer with py := 0 } })) ∧
  ∀ (s : State) (d : Desk) (dx dy : Int), s.pointer.screen = some d →
    let mx := moveAxis s.node.speed s.pointer.residueX dx
    let my := moveAxis s.node.speed s.pointer.residueY dy
    let u := { s with pointer := { s.pointer with residueX := mx.2, residueY := my.2 } }
    (s.pointer.capture = none → ∃ c, (moveX d mx.1 u).pointer.screen = some c ∧
      ∃ e, (moveY c my.1 (moveX d mx.1 u)).pointer.screen = some e ∧
        applyMotion dx dy s = clampToScreen e (moveY c my.1 (moveX d mx.1 u))) ∧
    (∀ k r, s.pointer.capture = some k → s.regionById k.screen k.id = some r →
      let p := (applyMotion dx dy s).pointer
      applyMotion dx dy s = { s with pointer := { u.pointer with px := p.px, py := p.py } } ∧
      (r.x < (s.screen d).width → r.y < (s.screen d).height → 0 < r.w → 0 < r.h →
        (p.px : Int) = max (r.x : Int) (min (min ((r.x : Int) + r.w) (s.screen d).width - 1) (max 0 ((s.pointer.px : Int) + mx.1))) ∧
        (p.py : Int) = max (r.y : Int) (min (min ((r.y : Int) + r.h) (s.screen d).height - 1) (max 0 ((s.pointer.py : Int) + my.1))))))

/-- R131, R132, R135, R136, R138, R152: re-evaluation. A capture is kept, with the pointer in its rectangle, or it breaks; the target is the first
region that holds the pointer; the POINTER and CAPTURE flags of all slots follow; the input slot becomes the focus unless the lock
is set. `u` stands before the focus request of step 4: beside the pointer and those flags, only a break has changed it, by its count and the
buttons-up entry of a heard slot. The request is the focus change of FocusChanges, or refused and counted in KS_FOCUS_HELD. -/
def Obligations.Reevaluation : Prop :=
  ∀ s : State,
    let t := reevaluate s
    (s.pointer.capture = none → t.pointer = { s.pointer with target := t.pointer.target }) ∧
    (∀ c, s.pointer.capture = some c →
      let kept (r : Region) : Prop := s.regionById c.screen c.id = some r ∧ r.input = true ∧
        (∃ p, r.source = some p ∧ p.slot = c.slot ∧ p.screen = c.srcScreen ∧ (s.admittedImage p.slot p.screen).isSome = true) ∧
        r.x < (s.screen c.screen).width ∧ r.y < (s.screen c.screen).height ∧ 0 < r.w ∧ 0 < r.h
      (∀ r, kept r → t.pointer = { s.pointer with
        px := max r.x (min (min (r.x + r.w) (s.screen c.screen).width - 1) s.pointer.px)
        py := max r.y (min (min (r.y + r.h) (s.screen c.screen).height - 1) s.pointer.py)
        target := t.pointer.target }) ∧
      ((¬∃ r, kept r) → t.pointer = { s.pointer with
        capture := none, swallowed := s.pointer.swallowed ||| s.pointer.buttons, residueX := 0, residueY := 0
        target := t.pointer.target })) ∧
    (t.pointer.screen = none → t.pointer.target = none) ∧
    (∀ d, t.pointer.screen = some d →
      (∀ pre r post, s.active d = pre ++ r :: post → (∀ q ∈ pre, q.contains t.pointer.px t.pointer.py = false) →
        r.contains t.pointer.px t.pointer.py = true → t.pointer.target = some (d, r.id)) ∧
      ((∀ q ∈ s.active d, q.contains t.pointer.px t.pointer.py = false) → t.pointer.target = none)) ∧
    (∀ i, (t.halfFlag i .capture = true ↔ ∃ c, t.pointer.capture = some c ∧ c.slot = i) ∧
      (t.halfFlag i .pointer = true ↔ ∃ r p, t.targetRegion = some r ∧ r.source = some p ∧ p.slot = i ∧ r.input = true ∧
        (s.admittedImage p.slot p.screen).isSome = true)) ∧
    (t.inputSlot = none → t.keyboard = s.keyboard) ∧
    (∀ i, t.inputSlot = some i → s.keyboard.lock = false → t.keyboard.focus = some i) ∧
    (s.keyboard.lock = true → t.keyboard = s.keyboard) ∧
    (t.keyboard.lock = s.keyboard.lock ∧ t.keyboard.keys = s.keyboard.keys) ∧
    (∀ i, t.src i = { s.src i with deskHalf := (t.src i).deskHalf, due := (t.src i).due }) ∧
    t = { s with
      pointer := t.pointer, hidQueue := t.hidQueue, keyboard := t.keyboard, sources := t.sources, counters := t.counters
      events := t.events, eventPending := t.eventPending } ∧
    ∃ u : State,
      (∀ c, s.pointer.capture = some c → t.pointer.capture = none →
        let v := if s.heard c.slot = true then givePointer c.slot c.srcScreen c.ax c.ay 0 0 s else s
        u.hidQueue = v.hidQueue ∧ u.events = v.events ∧ u.eventPending = v.eventPending ∧
          (CountersCapped v → Tallied [.psCaptureBroken] v u)) ∧
      (t.pointer.capture = s.pointer.capture →
        u.hidQueue = s.hidQueue ∧ u.events = s.events ∧ u.eventPending = s.eventPending ∧ u.counters = s.counters) ∧
      (∀ i, (∀ f, u.halfFlag i f = if f = .pointer ∨ f = .capture then t.halfFlag i f else s.halfFlag i f) ∧
        (∀ n : Fin 8, n ≠ 1 → (u.src i).deskHalf.get n = (s.src i).deskHalf.get n) ∧
        u.src i = { s.src i with
          deskHalf := (u.src i).deskHalf
          due := (s.src i).due || (s.heard i && (t.halfFlag i .pointer != s.halfFlag i .pointer ||
            t.halfFlag i .capture != s.halfFlag i .capture)) }) ∧
      u = { s with
        pointer := t.pointer, hidQueue := u.hidQueue, sources := u.sources, counters := u.counters, events := u.events
        eventPending := u.eventPending } ∧
      t = match t.inputSlot with
        | none => u
        | some i =>
          if s.keyboard.focus = some i then u
          else if s.keyboard.lock = true then bump .ksFocusHeld u
          else focusChange (some i) u

/-- R29, R135, R142, R143: the entry that a breaking capture gives, and the entry of a report, with its coordinates. A workstation that undoes the
scaling recovers the source pixel. -/
def Obligations.PointerEntries : Prop :=
  (∀ (s : State) (c : Capture),
    (s.heard c.slot = false → (breakCapture c s).hidQueue = s.hidQueue) ∧
    (s.heard c.slot = true → (breakCapture c s).hidQueue = (givePointer c.slot c.srcScreen c.ax c.ay 0 0 s).hidQueue)) ∧
  (∀ u width : Nat, 0 < width → width ≤ 3840 →
    absolute u width ≤ 32767 ∧ absolute u width * width / 32768 = min u (width - 1)) ∧
  ∀ (s : State) (before : Steering) (wheel : Int),
    let sees (p : Steering) : BitVec 5 := p.buttons &&& ~~~p.swallowed
    let required := before.screen ≠ s.pointer.screen ∨ before.px ≠ s.pointer.px ∨ before.py ≠ s.pointer.py ∨
      sees before ≠ sees s.pointer ∨ wheel ≠ 0
    (s.inputRegion = none → reportPointer before wheel s = s) ∧
    (¬required → reportPointer before wheel s = s) ∧
    ∀ r p e, s.inputRegion = some (r, p) → required → s.entry p.slot p.screen = some e →
      let u := mapOffset p.u0 p.z (s.pointer.px - r.x)
      let v := mapOffset p.v0 p.z (s.pointer.py - r.y)
      let ax := (2 * (min u (e.width - 1)) + 1) * 16384 / e.width
      let ay := (2 * (min v (e.height - 1)) + 1) * 16384 / e.height
      0 < e.width → 0 < e.height →
      ∃ w, w = givePointer p.slot p.screen ax ay (sees s.pointer) wheel s ∧
        reportPointer before wheel s = { w with pointer := { w.pointer with
          capture := w.pointer.capture.map fun c => { c with ax := ax, ay := ay } } }

/-! ### The keyboard -/

/-- R46, R47, R146, R151 to R154, R162: a focus change, and the flags of word 1. Every key is released to the old focus if it is heard, every held key
is withheld, the new focus is given the modifiers alone, and the FOCUS flags and the lamps follow. A flag of word 1 that changes makes a
heard slot due. Every other counter stands. -/
def Obligations.FocusChanges : Prop :=
  (∀ (s : State) (i : Slot) (f : HalfFlag) (v : Bool), let t := setHalfFlag i f v s
    (∀ g, t.halfFlag i g = if g = f then v else s.halfFlag i g) ∧
    (∀ n : Fin 8, n ≠ 1 → (t.src i).deskHalf.get n = (s.src i).deskHalf.get n) ∧
    (t.src i).due = ((s.src i).due || (s.heard i && s.halfFlag i f != v)) ∧
    t = setSrc i { s.src i with deskHalf := (t.src i).deskHalf, due := (t.src i).due } s) ∧
  ∀ (s : State) (b : Option Slot), s.keyboard.focus ≠ b → CountersCapped s →
    let t := focusChange b s
    let k := s.keyboard
    ∃ u v : State,
      u = (match k.focus with | some i => if s.heard i then giveKey i 0 [] s else s | none => s) ∧
      v = (match b with | some i => giveKey i k.modifiers [] u | none => u) ∧
      t.hidQueue = v.hidQueue ∧ t.counter .hidKeyMerged = v.counter .hidKeyMerged ∧
      t.counter .ksFocusChanges = min counterTop (s.counter .ksFocusChanges + 1) ∧
      (∀ c, c ≠ .hidKeyMerged → c ≠ .ksFocusChanges → t.counter c = s.counter c) ∧
      Flagged [.focusChanged] s t ∧
      t.keyboard = { k with
        swallowed := k.swallowed ++ k.keys.filter (fun c => c ∉ k.swallowed), forwarded := [], focus := b
        lamps := match b with | some i => (s.src i).lamps | none => 0 } ∧
      (∀ i, t.halfFlag i .focus = if b = some i then true else if k.focus = some i then false else s.halfFlag i .focus) ∧
      (∀ i g, g ≠ .focus → t.halfFlag i g = s.halfFlag i g) ∧
      (∀ i, ∀ n : Fin 8, n ≠ 1 → (t.src i).deskHalf.get n = (s.src i).deskHalf.get n) ∧
      (∀ i, t.src i = { s.src i with deskHalf := (t.src i).deskHalf, due := (t.src i).due } ∧
        (t.src i).due = ((s.src i).due || (s.heard i && t.halfFlag i .focus != s.halfFlag i .focus))) ∧
      t = { s with
        hidQueue := t.hidQueue, keyboard := t.keyboard, sources := t.sources, counters := t.counters, events := t.events
        eventPending := t.eventPending }

/-- R147 to R149, R151: a rollover report; a desk keyboard report none of whose new keys is a hotkey; and every report that is accepted: its
update, its new keys taken in turn (each as HotkeysAct states), the released keys leaving the two lists, and the state report for the focus
as it then stands. The report's key list `l` holds its keys once each, in the order of their first positions. -/
def Obligations.KeysGoToTheFocus : Prop :=
  (∀ p : List Byte, let l := normalise p
    l.Nodup ∧ (∀ c, c ∈ l ↔ c ∈ p ∧ c ≠ 0 ∧ ¬(0xE0 ≤ c.toNat ∧ c.toNat ≤ 0xE7)) ∧
      ∀ a c, [a, c].Sublist l → ∃ pre post, p = pre ++ a :: post ∧ c ∉ pre) ∧
  ∀ (s : State) (m : Byte) (ks : Vector Byte 6), s.resetLine = false →
    (1 ∈ ks.toList → exec (.deskKeyboardReport m ks) s = .next (bump .ksRollover s)) ∧
    (1 ∉ ks.toList →
      let l := normalise ks.toList
      let k := s.keyboard
      let new := l.filter fun c => c ∉ k.keys
      (∀ c ∈ new, ∀ n : Fin 16, (k.hotkeys.get n).valid = true → (k.hotkeys.get n).key = c → (k.hotkeys.get n).modifiers ≠ m) →
      let u := bump .ksReports { s with keyboard := { k with
        modifiers := m
        keys := k.keys.filter (fun c => c ∈ l) ++ new
        swallowed := k.swallowed.filter fun c => ¬(c ∈ k.keys ∧ c ∉ l)
        forwarded := (k.forwarded ++ new.filter fun c => k.focus ≠ none ∧ c ∉ k.swallowed ∧ c ∉ k.forwarded).filter fun c =>
          ¬(c ∈ k.keys ∧ c ∉ l) } }
      (k.focus = none → exec (.deskKeyboardReport m ks) s = .next u) ∧
      ∀ i, k.focus = some i → exec (.deskKeyboardReport m ks) s = .next (giveKey i m u.keyboard.forwarded u)) ∧
    (1 ∉ ks.toList →
      let l := normalise ks.toList
      let k := s.keyboard
      let new := l.filter fun c => c ∉ k.keys
      let held (q : List Byte) : List Byte := q.filter fun c => ¬(c ∈ k.keys ∧ c ∉ l)
      let u := bump .ksReports { s with keyboard := { k with modifiers := m, keys := k.keys.filter (fun c => c ∈ l) ++ new } }
      let v := new.foldl takeKey u
      let w := { v with keyboard := { v.keyboard with
        swallowed := held v.keyboard.swallowed, forwarded := held v.keyboard.forwarded } }
      (v.keyboard.focus = none → exec (.deskKeyboardReport m ks) s = .next w) ∧
      ∀ i, v.keyboard.focus = some i →
        exec (.deskKeyboardReport m ks) s = .next (giveKey i w.keyboard.modifiers w.keyboard.forwarded w))

/-- R149, R157 to R161: a newly pressed key as step 1 of R149 takes it, and what each action of a hotkey does. The matching entry of the
lowest index is taken; a key that matches none joins the forwarded list when a focus exists and it is not swallowed. -/
def Obligations.HotkeysAct : Prop :=
  (∀ (s : State) (c : Byte) (n : Fin 16), let h (m : Fin 16) := s.keyboard.hotkeys.get m
    let fits (m : Fin 16) : Prop := (h m).valid = true ∧ (h m).key = c ∧ (h m).modifiers = s.keyboard.modifiers
    fits n → (∀ m, m < n → ¬fits m) →
    ∃ u, Flagged [.hotkeyUsed] s u ∧
      u = { bump .ksHotkeys s with
        keyboard := { s.keyboard with
          swallowed := if c ∈ s.keyboard.swallowed then s.keyboard.swallowed else s.keyboard.swallowed ++ [c] }
        events := u.events, eventPending := u.eventPending } ∧
      takeKey s c = takeAction (h n) u) ∧
  (∀ (s : State) (c : Byte), let k := s.keyboard
    (∀ n : Fin 16, ¬((k.hotkeys.get n).valid = true ∧ (k.hotkeys.get n).key = c ∧ (k.hotkeys.get n).modifiers = k.modifiers)) →
    takeKey s c = (if k.focus ≠ none ∧ c ∉ k.swallowed then
      { s with keyboard := { k with forwarded := if c ∈ k.forwarded then k.forwarded else k.forwarded ++ [c] } } else s)) ∧
  ∀ (s : State) (h : Hotkey),
    (∀ n : Fin 8, h.action = 1 → h.argument.toNat = n.val →
      (s.presets.get n = none → takeAction h s = s) ∧
      ∀ p, s.presets.get n = some p → takeAction h s = requestSwap true 0b1111 { s with pendingLists := p }) ∧
    (h.action = 2 →
      let candidate (i : Slot) : Prop := s.heard i = true ∧ s.halfFlag i .viewing = true
      let first (i : Slot) : Prop := candidate i ∧
        match s.keyboard.focus with
        | none => ∀ j, j < i → ¬candidate j
        | some f => ∀ j, candidate j → (j.val + 15 - f.val) % 8 < (i.val + 15 - f.val) % 8 → False
      ((∀ i, ¬candidate i) → takeAction h s = s) ∧
      ∀ i, first i →
        (s.keyboard.focus = some i → takeAction h s = { s with keyboard := { s.keyboard with lock := true } }) ∧
        (s.keyboard.focus ≠ some i → takeAction h s =
          { focusChange (some i) s with keyboard := { (focusChange (some i) s).keyboard with lock := true } })) ∧
    (h.action = 3 →
      (s.keyboard.lock = true → takeAction h s = reevaluate { s with keyboard := { s.keyboard with lock := false } }) ∧
      (s.keyboard.lock = false → s.keyboard.focus ≠ none →
        takeAction h s = { s with keyboard := { s.keyboard with lock := true } }) ∧
      (s.keyboard.lock = false → s.keyboard.focus = none → takeAction h s = s)) ∧
    ((h.action = 4 ∨ h.action = 5) → let t := takeAction h s
      t = { s with screens := t.screens } ∧
      ∀ d : Desk, t.screen d = if h.argument.getLsbD d.val = true then { s.screen d with
          identify := if h.action = 4 then !(s.screen d).identify else (s.screen d).identify
          blank := if h.action = 5 then !(s.screen d).blank else (s.screen d).blank }
        else s.screen d) ∧
    (h.action = 6 → takeAction h s = { s with node := { s.node with speed := min 15 (s.node.speed + 1) } }) ∧
    (h.action = 7 → takeAction h s = { s with node := { s.node with speed := s.node.speed - 1 } })

/-- R162, R163: lamp messages. A begin or completion that cannot be leaves the state as it is (DESIGN CHOICE 5). -/
def Obligations.LampMessages : Prop :=
  ∀ s : State, s.resetLine = false →
    let begun : State := { bump .ksLampSends s with lampMessage := some s.keyboard.lamps, lampSent := some s.keyboard.lamps }
    (s.lampMessage = none → s.lampSent ≠ some s.keyboard.lamps → exec .lampMessageBegin s = .next begun) ∧
    ((s.lampMessage ≠ none ∨ s.lampSent = some s.keyboard.lamps) → exec .lampMessageBegin s = .next s) ∧
    (s.lampMessage ≠ none → s.lampSent ≠ some s.keyboard.lamps → exec .lampMessageComplete s = .next begun) ∧
    (s.lampMessage ≠ none → s.lampSent = some s.keyboard.lamps →
      exec .lampMessageComplete s = .next { s with lampMessage := none }) ∧
    (s.lampMessage = none → exec .lampMessageComplete s = .next s)

/-! ### The picture -/

/-- R89, R92, R95 to R98, R104: what a pixel of a desk screen shows. That none is shown while the reset line is asserted is the model's
reading of R179 (DEDUCED 20). R99 to R103, R107 to R109: samples, means and the cursor overlay. At z = 0 and below a pixel shows one
sample, decided by the stamp of its own tile; at z = 1 and above the mean of a block, halves up; outside the source screen the fill
colour. The overlay is the input slot's cursor record, or the arrow. R91: a picture scans row by row from row 0, each row from x = 0, and
shows each pixel as composed from the state at that pixel's own moment. -/
def Obligations.PixelsShow : Prop :=
  (∀ (s : State) (d : Desk) (px py : Nat),
    let e := s.screen d
    let inside := s.resetLine = false ∧ e.enabled = true ∧ px < e.width ∧ py < e.height
    let firstAt (r : Region) : Prop := ∃ pre post, s.active d = pre ++ r :: post ∧
      (∀ q ∈ pre, ¬(q.x ≤ px ∧ px < q.x + q.w ∧ q.y ≤ py ∧ py < q.y + q.h)) ∧ r.x ≤ px ∧ px < r.x + r.w ∧ r.y ≤ py ∧ py < r.y + r.h
    let edge (r : Region) : Prop := px < r.x + 4 ∨ r.x + r.w ≤ px + 4 ∨ py < r.y + 4 ∨ r.y + r.h ≤ py + 4
    (¬inside → s.pixel d px py = none) ∧
    (inside → e.identify = false → e.blank = true → s.pixel d px py = some s.node.background) ∧
    (inside → e.identify = true →
      ((¬∃ r, firstAt r) → s.pixel d px py = some s.node.background) ∧
      ∀ r, firstAt r → (edge r → s.pixel d px py = some ⟨255, 255, 255⟩) ∧ (¬edge r → s.pixel d px py = some r.fill)) ∧
    (inside → e.identify = false → e.blank = false → s.pointer.screen ≠ some d → s.pixel d px py = some (s.composed d px py)) ∧
    ((¬∃ r, firstAt r) → s.composed d px py = s.node.background) ∧
    ∀ r, firstAt r →
      (r.source = none → s.composed d px py = r.fill) ∧
      ∀ p, r.source = some p →
        (s.admittedImage p.slot p.screen = none → s.composed d px py = r.fill) ∧
        ∀ x t, s.admittedImage p.slot p.screen = some x → s.image x = some t →
          ((s.src p.slot).state = .stale → edge r → s.composed d px py = ⟨255, 160, 0⟩) ∧
          (((s.src p.slot).state ≠ .stale ∨ ¬edge r) →
            s.composed d px py = s.sourceValue x t p r.fill (px - r.x) (py - r.y))) ∧
  ((∀ (s : State) (x : ImageIx) (t : Tracking) (p : SourcePart) (fill : Colour) (a b : Nat),
    let sample (u v : Nat) : Colour := if storeGet t.stamps (v / 16 * (t.width / 16) + u / 16) = none then fill else s.imagePixel x u v
    (∀ m : Nat, p.z = -(m : Int) →
      let u := p.u0 + a / 2 ^ m
      let v := p.v0 + b / 2 ^ m
      s.sourceValue x t p fill a b = if u < t.width ∧ v < t.height then sample u v else fill) ∧
    ∀ n : Nat, p.z = (n : Int) → 1 ≤ n →
      let u := p.u0 + a * 2 ^ n
      let v := p.v0 + b * 2 ^ n
      let size := 2 ^ n * 2 ^ n
      let sum (f : Colour → Byte) : Nat := ((List.range (2 ^ n)).map fun j => ((List.range (2 ^ n)).map fun i =>
        (f (sample (min (u + i) (t.width - 1)) (min (v + j) (t.height - 1)))).toNat).sum).sum
      let shown := s.sourceValue x t p fill a b
      (¬(u < t.width ∧ v < t.height) → shown = fill) ∧
      (u < t.width → v < t.height → shown.r.toNat = (sum Colour.r + size / 2) / size ∧
        shown.g.toNat = (sum Colour.g + size / 2) / size ∧ shown.b.toNat = (sum Colour.b + size / 2) / size)) ∧
  ∀ (s : State) (d : Desk) (px py : Nat), s.resetLine = false → s.pointer.screen = some d → (s.screen d).enabled = true →
    (s.screen d).identify = false → (s.screen d).blank = false → px < (s.screen d).width → py < (s.screen d).height →
    let beneath := s.composed d px py
    let record := s.inputSlot.bind fun i => (s.src i).cursor
    (record = none → ∀ i j, px = s.pointer.px + i → py = s.pointer.py + j → s.pixel d px py =
      some (if j ≤ 15 ∧ i ≤ j then (if i = 0 ∨ i = j ∨ j = 15 then ⟨0, 0, 0⟩ else ⟨255, 255, 255⟩) else beneath)) ∧
    (record = none → (px < s.pointer.px ∨ py < s.pointer.py) → s.pixel d px py = some beneath) ∧
    ∀ k, record = some k →
      (k.hidden = true → s.pixel d px py = some beneath) ∧
      (k.hidden = false → (∀ i j, i < 32 → j < 32 → px + k.hotX = s.pointer.px + i → py + k.hotY = s.pointer.py + j →
        let c := (k.image.get (Fin.ofNat 256 ((32 * j + i) / 4))).extractLsb' (6 - 2 * (i % 4)) 2
        s.pixel d px py = some (if c = 0 then beneath else if c = 1 then k.colourA else if c = 2 then k.colourB
          else ⟨255 - beneath.r, 255 - beneath.g, 255 - beneath.b⟩)) ∧
        (¬(∃ i j, i < 32 ∧ j < 32 ∧ px + k.hotX = s.pointer.px + i ∧ py + k.hotY = s.pointer.py + j) →
          s.pixel d px py = some beneath))) ∧
  (∀ (s : State) (d : Desk) (moments : List State),
    let w := (s.screen d).width
    let h := (s.screen d).height
    let shown := s.scannedPicture d moments
    (scanOrder w h).length = w * h ∧ shown.length = min (w * h) moments.length ∧
    ∀ x y, x < w → y < h → (scanOrder w h)[y * w + x]? = some (x, y) ∧
      ∀ t, moments[y * w + x]? = some t → shown[y * w + x]? = some ((x, y), t.pixel d x y))

/-! ### The Laws at every step -/

/-- Law 1 (R93), the capacities of the queues between blocks (R24, R26, R121, R167), the ranges of the NODE table (R170) and the
canonical form of the image memory are kept by every step. -/
def Obligations.StoresStayInForm : Prop :=
  ∀ s t : State, Law1 s ∧ QueuesBounded s ∧ NodeInRange s ∧ ImageMemoryWf s → step s = .next t →
    Law1 t ∧ QueuesBounded t ∧ NodeInRange t ∧ ImageMemoryWf t

/-- Law 2 (R48) and the form of the Source Table (R19, R38) are kept by every step. -/
def Obligations.SourceLawIsKept : Prop :=
  ∀ s t : State, Law2 s ∧ SourceTableWf s → step s = .next t → Law2 t ∧ SourceTableWf t

/-- Law 3 (R75) is kept by every step. -/
def Obligations.RefreshLawIsKept : Prop := ∀ s t : State, Law3 s → step s = .next t → Law3 t

/-- Law 4: its derivation (05, The stamp age bound) as an invariant that every step keeps, together with Law 3, whose grids and cursors it
rests on; and from such a state every step leads to one with every present stamp 0 to 31,013 frames behind its screen's current frame. -/
def Obligations.StampAgeLawIsKept : Prop :=
  ∀ s t : State, Law3 s ∧ StampsAge s → step s = .next t → Law3 t ∧ StampsAge t ∧ Law4 t

/-- Law 5 (R142) and Law 8 (R27) are kept by every step. -/
def Obligations.HidLawsAreKept : Prop := ∀ s t : State, Law5 s ∧ Law8 s → step s = .next t → Law5 t ∧ Law8 t

/-- Law 6 (R131), with R125's word on the pointer, and the agreement of the target and the POINTER and CAPTURE flags with it (R132, R136,
R138) are kept by every step, together with Law 1, the settings of the desk screens (R89) and the form of the Source Table, on which they
rest. That the CAPTURE flag stands from the capture's start is the model's reading (DEDUCED 30). -/
def Obligations.PointerLawIsKept : Prop :=
  ∀ s t : State, Law1 s ∧ ScreensInRange s ∧ SourceTableWf s ∧ Law6 s ∧ SteeringWf s ∧ SteeringSettled s → step s = .next t →
    Law1 t ∧ ScreensInRange t ∧ SourceTableWf t ∧ Law6 t ∧ SteeringWf t ∧ SteeringSettled t

/-- Law 7 (R150) and Law 11 (R162), with R152's and R155's word on the focus, its flag and its lock, are kept by every step, together with the
form of the Source Table, on which they rest. -/
def Obligations.KeyboardLawsAreKept : Prop :=
  ∀ s t : State, SourceTableWf s ∧ Law7 s ∧ Law11 s ∧ FocusWf s → step s = .next t →
    SourceTableWf t ∧ Law7 t ∧ Law11 t ∧ FocusWf t

/-- Law 9 (R33): a step that begins an EVENT cell records its time, at least 10 ms after the last recorded one, and a step that changes the
record leaves an EVENT cell in flight on Port A. That the clock, which is the model's own, never goes back but at power-on is the model's choice (DESIGN CHOICE 19). -/
def Obligations.EventsKeepTheHoldoff : Prop :=
  ∀ s t : State, step s = .next t → (∀ straps, s.pending.head? ≠ some (.powerOn straps)) →
    s.now ≤ t.now ∧
    (t.lastEventBegan = s.lastEventBegan ∨
      t.lastEventBegan = some t.now ∧ t.portA.tx.map InFlight.source = some .event ∧
        ∀ b, s.lastEventBegan = some b → b + 10000 ≤ t.now) ∧
    (t.portA.tx.map InFlight.source = some .event → s.portA.tx.map InFlight.source ≠ some .event →
      t.lastEventBegan = some t.now ∧ ∀ b, s.lastEventBegan = some b → b + 10000 ≤ t.now)

/-- Law 10 (R122): but for a reset, a step takes a screen from the awaited sets only when it clears that screen's pending swap, and a fence from
the list only with nothing left to await. It rests on what is kept between steps: a fence awaits pending swaps alone, and a disabled screen
has none (R114). Kept too: that a fence with nothing left to await waits only for room
(outside an assertion of the reset line, which empties the response queue at once); and that the desk halves agree with the node address
and the active lists (R46, R118): all kept by every step. -/
def Obligations.FenceLawIsKept : Prop :=
  ∀ s t : State, Law10 s ∧ (s.resetLine = false → FencesSettled s) ∧ DeskHalvesWf s → step s = .next t →
    Law10 t ∧ (t.resetLine = false → FencesSettled t) ∧ DeskHalvesWf t ∧
      ((∀ i, s.pending.head? = some i → mayReset i s = false) → FencesWait s t)

/-- Law 12 (R175): no step lets a counter pass 4,294,967,295, and none lets one fall but the commands that can hold a reset or a GET_CLEAR. -/
def Obligations.CountersNeverFall : Prop :=
  ∀ s t : State, CountersCapped s → step s = .next t → CountersCapped t ∧
    ((∀ i rest, s.pending = i :: rest → mayClearCounters i s = false) → NoCounterFell s t)
end

