-- ==== Sys2Proof/Laws/State.lean ====
section
/-!
SUPPORT. What each named update of the state leaves alone, field by field, and what it reads back: the lemmas that spare every later
proof the unfolding of a record update.
-/

namespace Sys2Proof.Machine

/-! ### bumpBy -/

@[simp] theorem bumpBy_portA (c : Counter) (n : Nat) (s : State) : (bumpBy c n s).portA = s.portA := rfl
@[simp] theorem bumpBy_portB (c : Counter) (n : Nat) (s : State) : (bumpBy c n s).portB = s.portB := rfl
@[simp] theorem bumpBy_forwardSet (c : Counter) (n : Nat) (s : State) : (bumpBy c n s).forwardSet = s.forwardSet := rfl
@[simp] theorem bumpBy_portBQueue (c : Counter) (n : Nat) (s : State) : (bumpBy c n s).portBQueue = s.portBQueue := rfl
@[simp] theorem bumpBy_uplinkQueue (c : Counter) (n : Nat) (s : State) : (bumpBy c n s).uplinkQueue = s.uplinkQueue := rfl
@[simp] theorem bumpBy_hidQueue (c : Counter) (n : Nat) (s : State) : (bumpBy c n s).hidQueue = s.hidQueue := rfl
@[simp] theorem bumpBy_lastServed (c : Counter) (n : Nat) (s : State) : (bumpBy c n s).lastServed = s.lastServed := rfl
@[simp] theorem bumpBy_lastEventBegan (c : Counter) (n : Nat) (s : State) : (bumpBy c n s).lastEventBegan = s.lastEventBegan := rfl
@[simp] theorem bumpBy_sources (c : Counter) (n : Nat) (s : State) : (bumpBy c n s).sources = s.sources := rfl
@[simp] theorem bumpBy_images (c : Counter) (n : Nat) (s : State) : (bumpBy c n s).images = s.images := rfl
@[simp] theorem bumpBy_imageMem (c : Counter) (n : Nat) (s : State) : (bumpBy c n s).imageMem = s.imageMem := rfl
@[simp] theorem bumpBy_creation (c : Counter) (n : Nat) (s : State) : (bumpBy c n s).creation = s.creation := rfl
@[simp] theorem bumpBy_screens (c : Counter) (n : Nat) (s : State) : (bumpBy c n s).screens = s.screens := rfl
@[simp] theorem bumpBy_pendingLists (c : Counter) (n : Nat) (s : State) : (bumpBy c n s).pendingLists = s.pendingLists := rfl
@[simp] theorem bumpBy_activeLists (c : Counter) (n : Nat) (s : State) : (bumpBy c n s).activeLists = s.activeLists := rfl
@[simp] theorem bumpBy_swapPending (c : Counter) (n : Nat) (s : State) : (bumpBy c n s).swapPending = s.swapPending := rfl
@[simp] theorem bumpBy_presets (c : Counter) (n : Nat) (s : State) : (bumpBy c n s).presets = s.presets := rfl
@[simp] theorem bumpBy_fences (c : Counter) (n : Nat) (s : State) : (bumpBy c n s).fences = s.fences := rfl
@[simp] theorem bumpBy_pointer (c : Counter) (n : Nat) (s : State) : (bumpBy c n s).pointer = s.pointer := rfl
@[simp] theorem bumpBy_layout (c : Counter) (n : Nat) (s : State) : (bumpBy c n s).layout = s.layout := rfl
@[simp] theorem bumpBy_keyboard (c : Counter) (n : Nat) (s : State) : (bumpBy c n s).keyboard = s.keyboard := rfl
@[simp] theorem bumpBy_lampMessage (c : Counter) (n : Nat) (s : State) : (bumpBy c n s).lampMessage = s.lampMessage := rfl
@[simp] theorem bumpBy_lampSent (c : Counter) (n : Nat) (s : State) : (bumpBy c n s).lampSent = s.lampSent := rfl
@[simp] theorem bumpBy_node (c : Counter) (n : Nat) (s : State) : (bumpBy c n s).node = s.node := rfl
@[simp] theorem bumpBy_responses (c : Counter) (n : Nat) (s : State) : (bumpBy c n s).responses = s.responses := rfl
@[simp] theorem bumpBy_controller (c : Counter) (n : Nat) (s : State) : (bumpBy c n s).controller = s.controller := rfl
@[simp] theorem bumpBy_resetPending (c : Counter) (n : Nat) (s : State) : (bumpBy c n s).resetPending = s.resetPending := rfl
@[simp] theorem bumpBy_events (c : Counter) (n : Nat) (s : State) : (bumpBy c n s).events = s.events := rfl
@[simp] theorem bumpBy_eventPending (c : Counter) (n : Nat) (s : State) : (bumpBy c n s).eventPending = s.eventPending := rfl
@[simp] theorem bumpBy_cause (c : Counter) (n : Nat) (s : State) : (bumpBy c n s).cause = s.cause := rfl
@[simp] theorem bumpBy_resetLine (c : Counter) (n : Nat) (s : State) : (bumpBy c n s).resetLine = s.resetLine := rfl
@[simp] theorem bumpBy_now (c : Counter) (n : Nat) (s : State) : (bumpBy c n s).now = s.now := rfl
@[simp] theorem bumpBy_freeCount (c : Counter) (n : Nat) (s : State) : (bumpBy c n s).freeCount = s.freeCount := rfl
@[simp] theorem bumpBy_pending (c : Counter) (n : Nat) (s : State) : (bumpBy c n s).pending = s.pending := rfl

/-! ### bump -/

@[simp] theorem bump_portA (c : Counter) (s : State) : (bump c s).portA = s.portA := rfl
@[simp] theorem bump_portB (c : Counter) (s : State) : (bump c s).portB = s.portB := rfl
@[simp] theorem bump_forwardSet (c : Counter) (s : State) : (bump c s).forwardSet = s.forwardSet := rfl
@[simp] theorem bump_portBQueue (c : Counter) (s : State) : (bump c s).portBQueue = s.portBQueue := rfl
@[simp] theorem bump_uplinkQueue (c : Counter) (s : State) : (bump c s).uplinkQueue = s.uplinkQueue := rfl
@[simp] theorem bump_hidQueue (c : Counter) (s : State) : (bump c s).hidQueue = s.hidQueue := rfl
@[simp] theorem bump_lastServed (c : Counter) (s : State) : (bump c s).lastServed = s.lastServed := rfl
@[simp] theorem bump_lastEventBegan (c : Counter) (s : State) : (bump c s).lastEventBegan = s.lastEventBegan := rfl
@[simp] theorem bump_sources (c : Counter) (s : State) : (bump c s).sources = s.sources := rfl
@[simp] theorem bump_images (c : Counter) (s : State) : (bump c s).images = s.images := rfl
@[simp] theorem bump_imageMem (c : Counter) (s : State) : (bump c s).imageMem = s.imageMem := rfl
@[simp] theorem bump_creation (c : Counter) (s : State) : (bump c s).creation = s.creation := rfl
@[simp] theorem bump_screens (c : Counter) (s : State) : (bump c s).screens = s.screens := rfl
@[simp] theorem bump_pendingLists (c : Counter) (s : State) : (bump c s).pendingLists = s.pendingLists := rfl
@[simp] theorem bump_activeLists (c : Counter) (s : State) : (bump c s).activeLists = s.activeLists := rfl
@[simp] theorem bump_swapPending (c : Counter) (s : State) : (bump c s).swapPending = s.swapPending := rfl
@[simp] theorem bump_presets (c : Counter) (s : State) : (bump c s).presets = s.presets := rfl
@[simp] theorem bump_fences (c : Counter) (s : State) : (bump c s).fences = s.fences := rfl
@[simp] theorem bump_pointer (c : Counter) (s : State) : (bump c s).pointer = s.pointer := rfl
@[simp] theorem bump_layout (c : Counter) (s : State) : (bump c s).layout = s.layout := rfl
@[simp] theorem bump_keyboard (c : Counter) (s : State) : (bump c s).keyboard = s.keyboard := rfl
@[simp] theorem bump_lampMessage (c : Counter) (s : State) : (bump c s).lampMessage = s.lampMessage := rfl
@[simp] theorem bump_lampSent (c : Counter) (s : State) : (bump c s).lampSent = s.lampSent := rfl
@[simp] theorem bump_node (c : Counter) (s : State) : (bump c s).node = s.node := rfl
@[simp] theorem bump_responses (c : Counter) (s : State) : (bump c s).responses = s.responses := rfl
@[simp] theorem bump_controller (c : Counter) (s : State) : (bump c s).controller = s.controller := rfl
@[simp] theorem bump_resetPending (c : Counter) (s : State) : (bump c s).resetPending = s.resetPending := rfl
@[simp] theorem bump_events (c : Counter) (s : State) : (bump c s).events = s.events := rfl
@[simp] theorem bump_eventPending (c : Counter) (s : State) : (bump c s).eventPending = s.eventPending := rfl
@[simp] theorem bump_cause (c : Counter) (s : State) : (bump c s).cause = s.cause := rfl
@[simp] theorem bump_resetLine (c : Counter) (s : State) : (bump c s).resetLine = s.resetLine := rfl
@[simp] theorem bump_now (c : Counter) (s : State) : (bump c s).now = s.now := rfl
@[simp] theorem bump_freeCount (c : Counter) (s : State) : (bump c s).freeCount = s.freeCount := rfl
@[simp] theorem bump_pending (c : Counter) (s : State) : (bump c s).pending = s.pending := rfl

/-! ### setPort -/

@[simp] theorem setPort_forwardSet (p : Port) (x : PortState) (s : State) : (setPort p x s).forwardSet = s.forwardSet := by cases p <;> rfl
@[simp] theorem setPort_portBQueue (p : Port) (x : PortState) (s : State) : (setPort p x s).portBQueue = s.portBQueue := by cases p <;> rfl
@[simp] theorem setPort_uplinkQueue (p : Port) (x : PortState) (s : State) : (setPort p x s).uplinkQueue = s.uplinkQueue := by cases p <;> rfl
@[simp] theorem setPort_hidQueue (p : Port) (x : PortState) (s : State) : (setPort p x s).hidQueue = s.hidQueue := by cases p <;> rfl
@[simp] theorem setPort_lastServed (p : Port) (x : PortState) (s : State) : (setPort p x s).lastServed = s.lastServed := by cases p <;> rfl
@[simp] theorem setPort_lastEventBegan (p : Port) (x : PortState) (s : State) : (setPort p x s).lastEventBegan = s.lastEventBegan := by cases p <;> rfl
@[simp] theorem setPort_sources (p : Port) (x : PortState) (s : State) : (setPort p x s).sources = s.sources := by cases p <;> rfl
@[simp] theorem setPort_images (p : Port) (x : PortState) (s : State) : (setPort p x s).images = s.images := by cases p <;> rfl
@[simp] theorem setPort_imageMem (p : Port) (x : PortState) (s : State) : (setPort p x s).imageMem = s.imageMem := by cases p <;> rfl
@[simp] theorem setPort_creation (p : Port) (x : PortState) (s : State) : (setPort p x s).creation = s.creation := by cases p <;> rfl
@[simp] theorem setPort_screens (p : Port) (x : PortState) (s : State) : (setPort p x s).screens = s.screens := by cases p <;> rfl
@[simp] theorem setPort_pendingLists (p : Port) (x : PortState) (s : State) : (setPort p x s).pendingLists = s.pendingLists := by cases p <;> rfl
@[simp] theorem setPort_activeLists (p : Port) (x : PortState) (s : State) : (setPort p x s).activeLists = s.activeLists := by cases p <;> rfl
@[simp] theorem setPort_swapPending (p : Port) (x : PortState) (s : State) : (setPort p x s).swapPending = s.swapPending := by cases p <;> rfl
@[simp] theorem setPort_presets (p : Port) (x : PortState) (s : State) : (setPort p x s).presets = s.presets := by cases p <;> rfl
@[simp] theorem setPort_fences (p : Port) (x : PortState) (s : State) : (setPort p x s).fences = s.fences := by cases p <;> rfl
@[simp] theorem setPort_pointer (p : Port) (x : PortState) (s : State) : (setPort p x s).pointer = s.pointer := by cases p <;> rfl
@[simp] theorem setPort_layout (p : Port) (x : PortState) (s : State) : (setPort p x s).layout = s.layout := by cases p <;> rfl
@[simp] theorem setPort_keyboard (p : Port) (x : PortState) (s : State) : (setPort p x s).keyboard = s.keyboard := by cases p <;> rfl
@[simp] theorem setPort_lampMessage (p : Port) (x : PortState) (s : State) : (setPort p x s).lampMessage = s.lampMessage := by cases p <;> rfl
@[simp] theorem setPort_lampSent (p : Port) (x : PortState) (s : State) : (setPort p x s).lampSent = s.lampSent := by cases p <;> rfl
@[simp] theorem setPort_node (p : Port) (x : PortState) (s : State) : (setPort p x s).node = s.node := by cases p <;> rfl
@[simp] theorem setPort_responses (p : Port) (x : PortState) (s : State) : (setPort p x s).responses = s.responses := by cases p <;> rfl
@[simp] theorem setPort_controller (p : Port) (x : PortState) (s : State) : (setPort p x s).controller = s.controller := by cases p <;> rfl
@[simp] theorem setPort_resetPending (p : Port) (x : PortState) (s : State) : (setPort p x s).resetPending = s.resetPending := by cases p <;> rfl
@[simp] theorem setPort_events (p : Port) (x : PortState) (s : State) : (setPort p x s).events = s.events := by cases p <;> rfl
@[simp] theorem setPort_eventPending (p : Port) (x : PortState) (s : State) : (setPort p x s).eventPending = s.eventPending := by cases p <;> rfl
@[simp] theorem setPort_counters (p : Port) (x : PortState) (s : State) : (setPort p x s).counters = s.counters := by cases p <;> rfl
@[simp] theorem setPort_cause (p : Port) (x : PortState) (s : State) : (setPort p x s).cause = s.cause := by cases p <;> rfl
@[simp] theorem setPort_resetLine (p : Port) (x : PortState) (s : State) : (setPort p x s).resetLine = s.resetLine := by cases p <;> rfl
@[simp] theorem setPort_now (p : Port) (x : PortState) (s : State) : (setPort p x s).now = s.now := by cases p <;> rfl
@[simp] theorem setPort_freeCount (p : Port) (x : PortState) (s : State) : (setPort p x s).freeCount = s.freeCount := by cases p <;> rfl
@[simp] theorem setPort_pending (p : Port) (x : PortState) (s : State) : (setPort p x s).pending = s.pending := by cases p <;> rfl

/-! ### setSrc -/

@[simp] theorem setSrc_portA (i : Slot) (x : SourceRecord) (s : State) : (setSrc i x s).portA = s.portA := rfl
@[simp] theorem setSrc_portB (i : Slot) (x : SourceRecord) (s : State) : (setSrc i x s).portB = s.portB := rfl
@[simp] theorem setSrc_forwardSet (i : Slot) (x : SourceRecord) (s : State) : (setSrc i x s).forwardSet = s.forwardSet := rfl
@[simp] theorem setSrc_portBQueue (i : Slot) (x : SourceRecord) (s : State) : (setSrc i x s).portBQueue = s.portBQueue := rfl
@[simp] theorem setSrc_uplinkQueue (i : Slot) (x : SourceRecord) (s : State) : (setSrc i x s).uplinkQueue = s.uplinkQueue := rfl
@[simp] theorem setSrc_hidQueue (i : Slot) (x : SourceRecord) (s : State) : (setSrc i x s).hidQueue = s.hidQueue := rfl
@[simp] theorem setSrc_lastServed (i : Slot) (x : SourceRecord) (s : State) : (setSrc i x s).lastServed = s.lastServed := rfl
@[simp] theorem setSrc_lastEventBegan (i : Slot) (x : SourceRecord) (s : State) : (setSrc i x s).lastEventBegan = s.lastEventBegan := rfl
@[simp] theorem setSrc_images (i : Slot) (x : SourceRecord) (s : State) : (setSrc i x s).images = s.images := rfl
@[simp] theorem setSrc_imageMem (i : Slot) (x : SourceRecord) (s : State) : (setSrc i x s).imageMem = s.imageMem := rfl
@[simp] theorem setSrc_creation (i : Slot) (x : SourceRecord) (s : State) : (setSrc i x s).creation = s.creation := rfl
@[simp] theorem setSrc_screens (i : Slot) (x : SourceRecord) (s : State) : (setSrc i x s).screens = s.screens := rfl
@[simp] theorem setSrc_pendingLists (i : Slot) (x : SourceRecord) (s : State) : (setSrc i x s).pendingLists = s.pendingLists := rfl
@[simp] theorem setSrc_activeLists (i : Slot) (x : SourceRecord) (s : State) : (setSrc i x s).activeLists = s.activeLists := rfl
@[simp] theorem setSrc_swapPending (i : Slot) (x : SourceRecord) (s : State) : (setSrc i x s).swapPending = s.swapPending := rfl
@[simp] theorem setSrc_presets (i : Slot) (x : SourceRecord) (s : State) : (setSrc i x s).presets = s.presets := rfl
@[simp] theorem setSrc_fences (i : Slot) (x : SourceRecord) (s : State) : (setSrc i x s).fences = s.fences := rfl
@[simp] theorem setSrc_pointer (i : Slot) (x : SourceRecord) (s : State) : (setSrc i x s).pointer = s.pointer := rfl
@[simp] theorem setSrc_layout (i : Slot) (x : SourceRecord) (s : State) : (setSrc i x s).layout = s.layout := rfl
@[simp] theorem setSrc_keyboard (i : Slot) (x : SourceRecord) (s : State) : (setSrc i x s).keyboard = s.keyboard := rfl
@[simp] theorem setSrc_lampMessage (i : Slot) (x : SourceRecord) (s : State) : (setSrc i x s).lampMessage = s.lampMessage := rfl
@[simp] theorem setSrc_lampSent (i : Slot) (x : SourceRecord) (s : State) : (setSrc i x s).lampSent = s.lampSent := rfl
@[simp] theorem setSrc_node (i : Slot) (x : SourceRecord) (s : State) : (setSrc i x s).node = s.node := rfl
@[simp] theorem setSrc_responses (i : Slot) (x : SourceRecord) (s : State) : (setSrc i x s).responses = s.responses := rfl
@[simp] theorem setSrc_controller (i : Slot) (x : SourceRecord) (s : State) : (setSrc i x s).controller = s.controller := rfl
@[simp] theorem setSrc_resetPending (i : Slot) (x : SourceRecord) (s : State) : (setSrc i x s).resetPending = s.resetPending := rfl
@[simp] theorem setSrc_events (i : Slot) (x : SourceRecord) (s : State) : (setSrc i x s).events = s.events := rfl
@[simp] theorem setSrc_eventPending (i : Slot) (x : SourceRecord) (s : State) : (setSrc i x s).eventPending = s.eventPending := rfl
@[simp] theorem setSrc_counters (i : Slot) (x : SourceRecord) (s : State) : (setSrc i x s).counters = s.counters := rfl
@[simp] theorem setSrc_cause (i : Slot) (x : SourceRecord) (s : State) : (setSrc i x s).cause = s.cause := rfl
@[simp] theorem setSrc_resetLine (i : Slot) (x : SourceRecord) (s : State) : (setSrc i x s).resetLine = s.resetLine := rfl
@[simp] theorem setSrc_now (i : Slot) (x : SourceRecord) (s : State) : (setSrc i x s).now = s.now := rfl
@[simp] theorem setSrc_freeCount (i : Slot) (x : SourceRecord) (s : State) : (setSrc i x s).freeCount = s.freeCount := rfl
@[simp] theorem setSrc_pending (i : Slot) (x : SourceRecord) (s : State) : (setSrc i x s).pending = s.pending := rfl

/-! ### setImage -/

@[simp] theorem setImage_portA (x : ImageIx) (t : Option Tracking) (s : State) : (setImage x t s).portA = s.portA := rfl
@[simp] theorem setImage_portB (x : ImageIx) (t : Option Tracking) (s : State) : (setImage x t s).portB = s.portB := rfl
@[simp] theorem setImage_forwardSet (x : ImageIx) (t : Option Tracking) (s : State) : (setImage x t s).forwardSet = s.forwardSet := rfl
@[simp] theorem setImage_portBQueue (x : ImageIx) (t : Option Tracking) (s : State) : (setImage x t s).portBQueue = s.portBQueue := rfl
@[simp] theorem setImage_uplinkQueue (x : ImageIx) (t : Option Tracking) (s : State) : (setImage x t s).uplinkQueue = s.uplinkQueue := rfl
@[simp] theorem setImage_hidQueue (x : ImageIx) (t : Option Tracking) (s : State) : (setImage x t s).hidQueue = s.hidQueue := rfl
@[simp] theorem setImage_lastServed (x : ImageIx) (t : Option Tracking) (s : State) : (setImage x t s).lastServed = s.lastServed := rfl
@[simp] theorem setImage_lastEventBegan (x : ImageIx) (t : Option Tracking) (s : State) : (setImage x t s).lastEventBegan = s.lastEventBegan := rfl
@[simp] theorem setImage_sources (x : ImageIx) (t : Option Tracking) (s : State) : (setImage x t s).sources = s.sources := rfl
@[simp] theorem setImage_imageMem (x : ImageIx) (t : Option Tracking) (s : State) : (setImage x t s).imageMem = s.imageMem := rfl
@[simp] theorem setImage_creation (x : ImageIx) (t : Option Tracking) (s : State) : (setImage x t s).creation = s.creation := rfl
@[simp] theorem setImage_screens (x : ImageIx) (t : Option Tracking) (s : State) : (setImage x t s).screens = s.screens := rfl
@[simp] theorem setImage_pendingLists (x : ImageIx) (t : Option Tracking) (s : State) : (setImage x t s).pendingLists = s.pendingLists := rfl
@[simp] theorem setImage_activeLists (x : ImageIx) (t : Option Tracking) (s : State) : (setImage x t s).activeLists = s.activeLists := rfl
@[simp] theorem setImage_swapPending (x : ImageIx) (t : Option Tracking) (s : State) : (setImage x t s).swapPending = s.swapPending := rfl
@[simp] theorem setImage_presets (x : ImageIx) (t : Option Tracking) (s : State) : (setImage x t s).presets = s.presets := rfl
@[simp] theorem setImage_fences (x : ImageIx) (t : Option Tracking) (s : State) : (setImage x t s).fences = s.fences := rfl
@[simp] theorem setImage_pointer (x : ImageIx) (t : Option Tracking) (s : State) : (setImage x t s).pointer = s.pointer := rfl
@[simp] theorem setImage_layout (x : ImageIx) (t : Option Tracking) (s : State) : (setImage x t s).layout = s.layout := rfl
@[simp] theorem setImage_keyboard (x : ImageIx) (t : Option Tracking) (s : State) : (setImage x t s).keyboard = s.keyboard := rfl
@[simp] theorem setImage_lampMessage (x : ImageIx) (t : Option Tracking) (s : State) : (setImage x t s).lampMessage = s.lampMessage := rfl
@[simp] theorem setImage_lampSent (x : ImageIx) (t : Option Tracking) (s : State) : (setImage x t s).lampSent = s.lampSent := rfl
@[simp] theorem setImage_node (x : ImageIx) (t : Option Tracking) (s : State) : (setImage x t s).node = s.node := rfl
@[simp] theorem setImage_responses (x : ImageIx) (t : Option Tracking) (s : State) : (setImage x t s).responses = s.responses := rfl
@[simp] theorem setImage_controller (x : ImageIx) (t : Option Tracking) (s : State) : (setImage x t s).controller = s.controller := rfl
@[simp] theorem setImage_resetPending (x : ImageIx) (t : Option Tracking) (s : State) : (setImage x t s).resetPending = s.resetPending := rfl
@[simp] theorem setImage_events (x : ImageIx) (t : Option Tracking) (s : State) : (setImage x t s).events = s.events := rfl
@[simp] theorem setImage_eventPending (x : ImageIx) (t : Option Tracking) (s : State) : (setImage x t s).eventPending = s.eventPending := rfl
@[simp] theorem setImage_counters (x : ImageIx) (t : Option Tracking) (s : State) : (setImage x t s).counters = s.counters := rfl
@[simp] theorem setImage_cause (x : ImageIx) (t : Option Tracking) (s : State) : (setImage x t s).cause = s.cause := rfl
@[simp] theorem setImage_resetLine (x : ImageIx) (t : Option Tracking) (s : State) : (setImage x t s).resetLine = s.resetLine := rfl
@[simp] theorem setImage_now (x : ImageIx) (t : Option Tracking) (s : State) : (setImage x t s).now = s.now := rfl
@[simp] theorem setImage_freeCount (x : ImageIx) (t : Option Tracking) (s : State) : (setImage x t s).freeCount = s.freeCount := rfl
@[simp] theorem setImage_pending (x : ImageIx) (t : Option Tracking) (s : State) : (setImage x t s).pending = s.pending := rfl

/-! ### setScreen -/

@[simp] theorem setScreen_portA (d : Desk) (x : ScreenSettings) (s : State) : (setScreen d x s).portA = s.portA := rfl
@[simp] theorem setScreen_portB (d : Desk) (x : ScreenSettings) (s : State) : (setScreen d x s).portB = s.portB := rfl
@[simp] theorem setScreen_forwardSet (d : Desk) (x : ScreenSettings) (s : State) : (setScreen d x s).forwardSet = s.forwardSet := rfl
@[simp] theorem setScreen_portBQueue (d : Desk) (x : ScreenSettings) (s : State) : (setScreen d x s).portBQueue = s.portBQueue := rfl
@[simp] theorem setScreen_uplinkQueue (d : Desk) (x : ScreenSettings) (s : State) : (setScreen d x s).uplinkQueue = s.uplinkQueue := rfl
@[simp] theorem setScreen_hidQueue (d : Desk) (x : ScreenSettings) (s : State) : (setScreen d x s).hidQueue = s.hidQueue := rfl
@[simp] theorem setScreen_lastServed (d : Desk) (x : ScreenSettings) (s : State) : (setScreen d x s).lastServed = s.lastServed := rfl
@[simp] theorem setScreen_lastEventBegan (d : Desk) (x : ScreenSettings) (s : State) : (setScreen d x s).lastEventBegan = s.lastEventBegan := rfl
@[simp] theorem setScreen_sources (d : Desk) (x : ScreenSettings) (s : State) : (setScreen d x s).sources = s.sources := rfl
@[simp] theorem setScreen_images (d : Desk) (x : ScreenSettings) (s : State) : (setScreen d x s).images = s.images := rfl
@[simp] theorem setScreen_imageMem (d : Desk) (x : ScreenSettings) (s : State) : (setScreen d x s).imageMem = s.imageMem := rfl
@[simp] theorem setScreen_creation (d : Desk) (x : ScreenSettings) (s : State) : (setScreen d x s).creation = s.creation := rfl
@[simp] theorem setScreen_pendingLists (d : Desk) (x : ScreenSettings) (s : State) : (setScreen d x s).pendingLists = s.pendingLists := rfl
@[simp] theorem setScreen_activeLists (d : Desk) (x : ScreenSettings) (s : State) : (setScreen d x s).activeLists = s.activeLists := rfl
@[simp] theorem setScreen_swapPending (d : Desk) (x : ScreenSettings) (s : State) : (setScreen d x s).swapPending = s.swapPending := rfl
@[simp] theorem setScreen_presets (d : Desk) (x : ScreenSettings) (s : State) : (setScreen d x s).presets = s.presets := rfl
@[simp] theorem setScreen_fences (d : Desk) (x : ScreenSettings) (s : State) : (setScreen d x s).fences = s.fences := rfl
@[simp] theorem setScreen_pointer (d : Desk) (x : ScreenSettings) (s : State) : (setScreen d x s).pointer = s.pointer := rfl
@[simp] theorem setScreen_layout (d : Desk) (x : ScreenSettings) (s : State) : (setScreen d x s).layout = s.layout := rfl
@[simp] theorem setScreen_keyboard (d : Desk) (x : ScreenSettings) (s : State) : (setScreen d x s).keyboard = s.keyboard := rfl
@[simp] theorem setScreen_lampMessage (d : Desk) (x : ScreenSettings) (s : State) : (setScreen d x s).lampMessage = s.lampMessage := rfl
@[simp] theorem setScreen_lampSent (d : Desk) (x : ScreenSettings) (s : State) : (setScreen d x s).lampSent = s.lampSent := rfl
@[simp] theorem setScreen_node (d : Desk) (x : ScreenSettings) (s : State) : (setScreen d x s).node = s.node := rfl
@[simp] theorem setScreen_responses (d : Desk) (x : ScreenSettings) (s : State) : (setScreen d x s).responses = s.responses := rfl
@[simp] theorem setScreen_controller (d : Desk) (x : ScreenSettings) (s : State) : (setScreen d x s).controller = s.controller := rfl
@[simp] theorem setScreen_resetPending (d : Desk) (x : ScreenSettings) (s : State) : (setScreen d x s).resetPending = s.resetPending := rfl
@[simp] theorem setScreen_events (d : Desk) (x : ScreenSettings) (s : State) : (setScreen d x s).events = s.events := rfl
@[simp] theorem setScreen_eventPending (d : Desk) (x : ScreenSettings) (s : State) : (setScreen d x s).eventPending = s.eventPending := rfl
@[simp] theorem setScreen_counters (d : Desk) (x : ScreenSettings) (s : State) : (setScreen d x s).counters = s.counters := rfl
@[simp] theorem setScreen_cause (d : Desk) (x : ScreenSettings) (s : State) : (setScreen d x s).cause = s.cause := rfl
@[simp] theorem setScreen_resetLine (d : Desk) (x : ScreenSettings) (s : State) : (setScreen d x s).resetLine = s.resetLine := rfl
@[simp] theorem setScreen_now (d : Desk) (x : ScreenSettings) (s : State) : (setScreen d x s).now = s.now := rfl
@[simp] theorem setScreen_freeCount (d : Desk) (x : ScreenSettings) (s : State) : (setScreen d x s).freeCount = s.freeCount := rfl
@[simp] theorem setScreen_pending (d : Desk) (x : ScreenSettings) (s : State) : (setScreen d x s).pending = s.pending := rfl

/-! ### setActive -/

@[simp] theorem setActive_portA (d : Desk) (l : List Region) (s : State) : (setActive d l s).portA = s.portA := rfl
@[simp] theorem setActive_portB (d : Desk) (l : List Region) (s : State) : (setActive d l s).portB = s.portB := rfl
@[simp] theorem setActive_forwardSet (d : Desk) (l : List Region) (s : State) : (setActive d l s).forwardSet = s.forwardSet := rfl
@[simp] theorem setActive_portBQueue (d : Desk) (l : List Region) (s : State) : (setActive d l s).portBQueue = s.portBQueue := rfl
@[simp] theorem setActive_uplinkQueue (d : Desk) (l : List Region) (s : State) : (setActive d l s).uplinkQueue = s.uplinkQueue := rfl
@[simp] theorem setActive_hidQueue (d : Desk) (l : List Region) (s : State) : (setActive d l s).hidQueue = s.hidQueue := rfl
@[simp] theorem setActive_lastServed (d : Desk) (l : List Region) (s : State) : (setActive d l s).lastServed = s.lastServed := rfl
@[simp] theorem setActive_lastEventBegan (d : Desk) (l : List Region) (s : State) : (setActive d l s).lastEventBegan = s.lastEventBegan := rfl
@[simp] theorem setActive_sources (d : Desk) (l : List Region) (s : State) : (setActive d l s).sources = s.sources := rfl
@[simp] theorem setActive_images (d : Desk) (l : List Region) (s : State) : (setActive d l s).images = s.images := rfl
@[simp] theorem setActive_imageMem (d : Desk) (l : List Region) (s : State) : (setActive d l s).imageMem = s.imageMem := rfl
@[simp] theorem setActive_creation (d : Desk) (l : List Region) (s : State) : (setActive d l s).creation = s.creation := rfl
@[simp] theorem setActive_screens (d : Desk) (l : List Region) (s : State) : (setActive d l s).screens = s.screens := rfl
@[simp] theorem setActive_pendingLists (d : Desk) (l : List Region) (s : State) : (setActive d l s).pendingLists = s.pendingLists := rfl
@[simp] theorem setActive_swapPending (d : Desk) (l : List Region) (s : State) : (setActive d l s).swapPending = s.swapPending := rfl
@[simp] theorem setActive_presets (d : Desk) (l : List Region) (s : State) : (setActive d l s).presets = s.presets := rfl
@[simp] theorem setActive_fences (d : Desk) (l : List Region) (s : State) : (setActive d l s).fences = s.fences := rfl
@[simp] theorem setActive_pointer (d : Desk) (l : List Region) (s : State) : (setActive d l s).pointer = s.pointer := rfl
@[simp] theorem setActive_layout (d : Desk) (l : List Region) (s : State) : (setActive d l s).layout = s.layout := rfl
@[simp] theorem setActive_keyboard (d : Desk) (l : List Region) (s : State) : (setActive d l s).keyboard = s.keyboard := rfl
@[simp] theorem setActive_lampMessage (d : Desk) (l : List Region) (s : State) : (setActive d l s).lampMessage = s.lampMessage := rfl
@[simp] theorem setActive_lampSent (d : Desk) (l : List Region) (s : State) : (setActive d l s).lampSent = s.lampSent := rfl
@[simp] theorem setActive_node (d : Desk) (l : List Region) (s : State) : (setActive d l s).node = s.node := rfl
@[simp] theorem setActive_responses (d : Desk) (l : List Region) (s : State) : (setActive d l s).responses = s.responses := rfl
@[simp] theorem setActive_controller (d : Desk) (l : List Region) (s : State) : (setActive d l s).controller = s.controller := rfl
@[simp] theorem setActive_resetPending (d : Desk) (l : List Region) (s : State) : (setActive d l s).resetPending = s.resetPending := rfl
@[simp] theorem setActive_events (d : Desk) (l : List Region) (s : State) : (setActive d l s).events = s.events := rfl
@[simp] theorem setActive_eventPending (d : Desk) (l : List Region) (s : State) : (setActive d l s).eventPending = s.eventPending := rfl
@[simp] theorem setActive_counters (d : Desk) (l : List Region) (s : State) : (setActive d l s).counters = s.counters := rfl
@[simp] theorem setActive_cause (d : Desk) (l : List Region) (s : State) : (setActive d l s).cause = s.cause := rfl
@[simp] theorem setActive_resetLine (d : Desk) (l : List Region) (s : State) : (setActive d l s).resetLine = s.resetLine := rfl
@[simp] theorem setActive_now (d : Desk) (l : List Region) (s : State) : (setActive d l s).now = s.now := rfl
@[simp] theorem setActive_freeCount (d : Desk) (l : List Region) (s : State) : (setActive d l s).freeCount = s.freeCount := rfl
@[simp] theorem setActive_pending (d : Desk) (l : List Region) (s : State) : (setActive d l s).pending = s.pending := rfl

/-! ### setPendingList -/

@[simp] theorem setPendingList_portA (d : Desk) (l : List Region) (s : State) : (setPendingList d l s).portA = s.portA := rfl
@[simp] theorem setPendingList_portB (d : Desk) (l : List Region) (s : State) : (setPendingList d l s).portB = s.portB := rfl
@[simp] theorem setPendingList_forwardSet (d : Desk) (l : List Region) (s : State) : (setPendingList d l s).forwardSet = s.forwardSet := rfl
@[simp] theorem setPendingList_portBQueue (d : Desk) (l : List Region) (s : State) : (setPendingList d l s).portBQueue = s.portBQueue := rfl
@[simp] theorem setPendingList_uplinkQueue (d : Desk) (l : List Region) (s : State) : (setPendingList d l s).uplinkQueue = s.uplinkQueue := rfl
@[simp] theorem setPendingList_hidQueue (d : Desk) (l : List Region) (s : State) : (setPendingList d l s).hidQueue = s.hidQueue := rfl
@[simp] theorem setPendingList_lastServed (d : Desk) (l : List Region) (s : State) : (setPendingList d l s).lastServed = s.lastServed := rfl
@[simp] theorem setPendingList_lastEventBegan (d : Desk) (l : List Region) (s : State) : (setPendingList d l s).lastEventBegan = s.lastEventBegan := rfl
@[simp] theorem setPendingList_sources (d : Desk) (l : List Region) (s : State) : (setPendingList d l s).sources = s.sources := rfl
@[simp] theorem setPendingList_images (d : Desk) (l : List Region) (s : State) : (setPendingList d l s).images = s.images := rfl
@[simp] theorem setPendingList_imageMem (d : Desk) (l : List Region) (s : State) : (setPendingList d l s).imageMem = s.imageMem := rfl
@[simp] theorem setPendingList_creation (d : Desk) (l : List Region) (s : State) : (setPendingList d l s).creation = s.creation := rfl
@[simp] theorem setPendingList_screens (d : Desk) (l : List Region) (s : State) : (setPendingList d l s).screens = s.screens := rfl
@[simp] theorem setPendingList_activeLists (d : Desk) (l : List Region) (s : State) : (setPendingList d l s).activeLists = s.activeLists := rfl
@[simp] theorem setPendingList_swapPending (d : Desk) (l : List Region) (s : State) : (setPendingList d l s).swapPending = s.swapPending := rfl
@[simp] theorem setPendingList_presets (d : Desk) (l : List Region) (s : State) : (setPendingList d l s).presets = s.presets := rfl
@[simp] theorem setPendingList_fences (d : Desk) (l : List Region) (s : State) : (setPendingList d l s).fences = s.fences := rfl
@[simp] theorem setPendingList_pointer (d : Desk) (l : List Region) (s : State) : (setPendingList d l s).pointer = s.pointer := rfl
@[simp] theorem setPendingList_layout (d : Desk) (l : List Region) (s : State) : (setPendingList d l s).layout = s.layout := rfl
@[simp] theorem setPendingList_keyboard (d : Desk) (l : List Region) (s : State) : (setPendingList d l s).keyboard = s.keyboard := rfl
@[simp] theorem setPendingList_lampMessage (d : Desk) (l : List Region) (s : State) : (setPendingList d l s).lampMessage = s.lampMessage := rfl
@[simp] theorem setPendingList_lampSent (d : Desk) (l : List Region) (s : State) : (setPendingList d l s).lampSent = s.lampSent := rfl
@[simp] theorem setPendingList_node (d : Desk) (l : List Region) (s : State) : (setPendingList d l s).node = s.node := rfl
@[simp] theorem setPendingList_responses (d : Desk) (l : List Region) (s : State) : (setPendingList d l s).responses = s.responses := rfl
@[simp] theorem setPendingList_controller (d : Desk) (l : List Region) (s : State) : (setPendingList d l s).controller = s.controller := rfl
@[simp] theorem setPendingList_resetPending (d : Desk) (l : List Region) (s : State) : (setPendingList d l s).resetPending = s.resetPending := rfl
@[simp] theorem setPendingList_events (d : Desk) (l : List Region) (s : State) : (setPendingList d l s).events = s.events := rfl
@[simp] theorem setPendingList_eventPending (d : Desk) (l : List Region) (s : State) : (setPendingList d l s).eventPending = s.eventPending := rfl
@[simp] theorem setPendingList_counters (d : Desk) (l : List Region) (s : State) : (setPendingList d l s).counters = s.counters := rfl
@[simp] theorem setPendingList_cause (d : Desk) (l : List Region) (s : State) : (setPendingList d l s).cause = s.cause := rfl
@[simp] theorem setPendingList_resetLine (d : Desk) (l : List Region) (s : State) : (setPendingList d l s).resetLine = s.resetLine := rfl
@[simp] theorem setPendingList_now (d : Desk) (l : List Region) (s : State) : (setPendingList d l s).now = s.now := rfl
@[simp] theorem setPendingList_freeCount (d : Desk) (l : List Region) (s : State) : (setPendingList d l s).freeCount = s.freeCount := rfl
@[simp] theorem setPendingList_pending (d : Desk) (l : List Region) (s : State) : (setPendingList d l s).pending = s.pending := rfl

/-! ### setSwapWaits -/

@[simp] theorem setSwapWaits_portA (d : Desk) (b : Bool) (s : State) : (setSwapWaits d b s).portA = s.portA := rfl
@[simp] theorem setSwapWaits_portB (d : Desk) (b : Bool) (s : State) : (setSwapWaits d b s).portB = s.portB := rfl
@[simp] theorem setSwapWaits_forwardSet (d : Desk) (b : Bool) (s : State) : (setSwapWaits d b s).forwardSet = s.forwardSet := rfl
@[simp] theorem setSwapWaits_portBQueue (d : Desk) (b : Bool) (s : State) : (setSwapWaits d b s).portBQueue = s.portBQueue := rfl
@[simp] theorem setSwapWaits_uplinkQueue (d : Desk) (b : Bool) (s : State) : (setSwapWaits d b s).uplinkQueue = s.uplinkQueue := rfl
@[simp] theorem setSwapWaits_hidQueue (d : Desk) (b : Bool) (s : State) : (setSwapWaits d b s).hidQueue = s.hidQueue := rfl
@[simp] theorem setSwapWaits_lastServed (d : Desk) (b : Bool) (s : State) : (setSwapWaits d b s).lastServed = s.lastServed := rfl
@[simp] theorem setSwapWaits_lastEventBegan (d : Desk) (b : Bool) (s : State) : (setSwapWaits d b s).lastEventBegan = s.lastEventBegan := rfl
@[simp] theorem setSwapWaits_sources (d : Desk) (b : Bool) (s : State) : (setSwapWaits d b s).sources = s.sources := rfl
@[simp] theorem setSwapWaits_images (d : Desk) (b : Bool) (s : State) : (setSwapWaits d b s).images = s.images := rfl
@[simp] theorem setSwapWaits_imageMem (d : Desk) (b : Bool) (s : State) : (setSwapWaits d b s).imageMem = s.imageMem := rfl
@[simp] theorem setSwapWaits_creation (d : Desk) (b : Bool) (s : State) : (setSwapWaits d b s).creation = s.creation := rfl
@[simp] theorem setSwapWaits_screens (d : Desk) (b : Bool) (s : State) : (setSwapWaits d b s).screens = s.screens := rfl
@[simp] theorem setSwapWaits_pendingLists (d : Desk) (b : Bool) (s : State) : (setSwapWaits d b s).pendingLists = s.pendingLists := rfl
@[simp] theorem setSwapWaits_activeLists (d : Desk) (b : Bool) (s : State) : (setSwapWaits d b s).activeLists = s.activeLists := rfl
@[simp] theorem setSwapWaits_presets (d : Desk) (b : Bool) (s : State) : (setSwapWaits d b s).presets = s.presets := rfl
@[simp] theorem setSwapWaits_fences (d : Desk) (b : Bool) (s : State) : (setSwapWaits d b s).fences = s.fences := rfl
@[simp] theorem setSwapWaits_pointer (d : Desk) (b : Bool) (s : State) : (setSwapWaits d b s).pointer = s.pointer := rfl
@[simp] theorem setSwapWaits_layout (d : Desk) (b : Bool) (s : State) : (setSwapWaits d b s).layout = s.layout := rfl
@[simp] theorem setSwapWaits_keyboard (d : Desk) (b : Bool) (s : State) : (setSwapWaits d b s).keyboard = s.keyboard := rfl
@[simp] theorem setSwapWaits_lampMessage (d : Desk) (b : Bool) (s : State) : (setSwapWaits d b s).lampMessage = s.lampMessage := rfl
@[simp] theorem setSwapWaits_lampSent (d : Desk) (b : Bool) (s : State) : (setSwapWaits d b s).lampSent = s.lampSent := rfl
@[simp] theorem setSwapWaits_node (d : Desk) (b : Bool) (s : State) : (setSwapWaits d b s).node = s.node := rfl
@[simp] theorem setSwapWaits_responses (d : Desk) (b : Bool) (s : State) : (setSwapWaits d b s).responses = s.responses := rfl
@[simp] theorem setSwapWaits_controller (d : Desk) (b : Bool) (s : State) : (setSwapWaits d b s).controller = s.controller := rfl
@[simp] theorem setSwapWaits_resetPending (d : Desk) (b : Bool) (s : State) : (setSwapWaits d b s).resetPending = s.resetPending := rfl
@[simp] theorem setSwapWaits_events (d : Desk) (b : Bool) (s : State) : (setSwapWaits d b s).events = s.events := rfl
@[simp] theorem setSwapWaits_eventPending (d : Desk) (b : Bool) (s : State) : (setSwapWaits d b s).eventPending = s.eventPending := rfl
@[simp] theorem setSwapWaits_counters (d : Desk) (b : Bool) (s : State) : (setSwapWaits d b s).counters = s.counters := rfl
@[simp] theorem setSwapWaits_cause (d : Desk) (b : Bool) (s : State) : (setSwapWaits d b s).cause = s.cause := rfl
@[simp] theorem setSwapWaits_resetLine (d : Desk) (b : Bool) (s : State) : (setSwapWaits d b s).resetLine = s.resetLine := rfl
@[simp] theorem setSwapWaits_now (d : Desk) (b : Bool) (s : State) : (setSwapWaits d b s).now = s.now := rfl
@[simp] theorem setSwapWaits_freeCount (d : Desk) (b : Bool) (s : State) : (setSwapWaits d b s).freeCount = s.freeCount := rfl
@[simp] theorem setSwapWaits_pending (d : Desk) (b : Bool) (s : State) : (setSwapWaits d b s).pending = s.pending := rfl

/-! ### setEntry -/

@[simp] theorem setEntry_portA (i : Slot) (k : SrcScreen) (e : Option ScreenEntry) (s : State) : (setEntry i k e s).portA = s.portA := rfl
@[simp] theorem setEntry_portB (i : Slot) (k : SrcScreen) (e : Option ScreenEntry) (s : State) : (setEntry i k e s).portB = s.portB := rfl
@[simp] theorem setEntry_forwardSet (i : Slot) (k : SrcScreen) (e : Option ScreenEntry) (s : State) : (setEntry i k e s).forwardSet = s.forwardSet := rfl
@[simp] theorem setEntry_portBQueue (i : Slot) (k : SrcScreen) (e : Option ScreenEntry) (s : State) : (setEntry i k e s).portBQueue = s.portBQueue := rfl
@[simp] theorem setEntry_uplinkQueue (i : Slot) (k : SrcScreen) (e : Option ScreenEntry) (s : State) : (setEntry i k e s).uplinkQueue = s.uplinkQueue := rfl
@[simp] theorem setEntry_hidQueue (i : Slot) (k : SrcScreen) (e : Option ScreenEntry) (s : State) : (setEntry i k e s).hidQueue = s.hidQueue := rfl
@[simp] theorem setEntry_lastServed (i : Slot) (k : SrcScreen) (e : Option ScreenEntry) (s : State) : (setEntry i k e s).lastServed = s.lastServed := rfl
@[simp] theorem setEntry_lastEventBegan (i : Slot) (k : SrcScreen) (e : Option ScreenEntry) (s : State) : (setEntry i k e s).lastEventBegan = s.lastEventBegan := rfl
@[simp] theorem setEntry_images (i : Slot) (k : SrcScreen) (e : Option ScreenEntry) (s : State) : (setEntry i k e s).images = s.images := rfl
@[simp] theorem setEntry_imageMem (i : Slot) (k : SrcScreen) (e : Option ScreenEntry) (s : State) : (setEntry i k e s).imageMem = s.imageMem := rfl
@[simp] theorem setEntry_creation (i : Slot) (k : SrcScreen) (e : Option ScreenEntry) (s : State) : (setEntry i k e s).creation = s.creation := rfl
@[simp] theorem setEntry_screens (i : Slot) (k : SrcScreen) (e : Option ScreenEntry) (s : State) : (setEntry i k e s).screens = s.screens := rfl
@[simp] theorem setEntry_pendingLists (i : Slot) (k : SrcScreen) (e : Option ScreenEntry) (s : State) : (setEntry i k e s).pendingLists = s.pendingLists := rfl
@[simp] theorem setEntry_activeLists (i : Slot) (k : SrcScreen) (e : Option ScreenEntry) (s : State) : (setEntry i k e s).activeLists = s.activeLists := rfl
@[simp] theorem setEntry_swapPending (i : Slot) (k : SrcScreen) (e : Option ScreenEntry) (s : State) : (setEntry i k e s).swapPending = s.swapPending := rfl
@[simp] theorem setEntry_presets (i : Slot) (k : SrcScreen) (e : Option ScreenEntry) (s : State) : (setEntry i k e s).presets = s.presets := rfl
@[simp] theorem setEntry_fences (i : Slot) (k : SrcScreen) (e : Option ScreenEntry) (s : State) : (setEntry i k e s).fences = s.fences := rfl
@[simp] theorem setEntry_pointer (i : Slot) (k : SrcScreen) (e : Option ScreenEntry) (s : State) : (setEntry i k e s).pointer = s.pointer := rfl
@[simp] theorem setEntry_layout (i : Slot) (k : SrcScreen) (e : Option ScreenEntry) (s : State) : (setEntry i k e s).layout = s.layout := rfl
@[simp] theorem setEntry_keyboard (i : Slot) (k : SrcScreen) (e : Option ScreenEntry) (s : State) : (setEntry i k e s).keyboard = s.keyboard := rfl
@[simp] theorem setEntry_lampMessage (i : Slot) (k : SrcScreen) (e : Option ScreenEntry) (s : State) : (setEntry i k e s).lampMessage = s.lampMessage := rfl
@[simp] theorem setEntry_lampSent (i : Slot) (k : SrcScreen) (e : Option ScreenEntry) (s : State) : (setEntry i k e s).lampSent = s.lampSent := rfl
@[simp] theorem setEntry_node (i : Slot) (k : SrcScreen) (e : Option ScreenEntry) (s : State) : (setEntry i k e s).node = s.node := rfl
@[simp] theorem setEntry_responses (i : Slot) (k : SrcScreen) (e : Option ScreenEntry) (s : State) : (setEntry i k e s).responses = s.responses := rfl
@[simp] theorem setEntry_controller (i : Slot) (k : SrcScreen) (e : Option ScreenEntry) (s : State) : (setEntry i k e s).controller = s.controller := rfl
@[simp] theorem setEntry_resetPending (i : Slot) (k : SrcScreen) (e : Option ScreenEntry) (s : State) : (setEntry i k e s).resetPending = s.resetPending := rfl
@[simp] theorem setEntry_events (i : Slot) (k : SrcScreen) (e : Option ScreenEntry) (s : State) : (setEntry i k e s).events = s.events := rfl
@[simp] theorem setEntry_eventPending (i : Slot) (k : SrcScreen) (e : Option ScreenEntry) (s : State) : (setEntry i k e s).eventPending = s.eventPending := rfl
@[simp] theorem setEntry_counters (i : Slot) (k : SrcScreen) (e : Option ScreenEntry) (s : State) : (setEntry i k e s).counters = s.counters := rfl
@[simp] theorem setEntry_cause (i : Slot) (k : SrcScreen) (e : Option ScreenEntry) (s : State) : (setEntry i k e s).cause = s.cause := rfl
@[simp] theorem setEntry_resetLine (i : Slot) (k : SrcScreen) (e : Option ScreenEntry) (s : State) : (setEntry i k e s).resetLine = s.resetLine := rfl
@[simp] theorem setEntry_now (i : Slot) (k : SrcScreen) (e : Option ScreenEntry) (s : State) : (setEntry i k e s).now = s.now := rfl
@[simp] theorem setEntry_freeCount (i : Slot) (k : SrcScreen) (e : Option ScreenEntry) (s : State) : (setEntry i k e s).freeCount = s.freeCount := rfl
@[simp] theorem setEntry_pending (i : Slot) (k : SrcScreen) (e : Option ScreenEntry) (s : State) : (setEntry i k e s).pending = s.pending := rfl

/-! ### advanceTo -/

@[simp] theorem advanceTo_portA (n : Nat) (s : State) : (advanceTo n s).portA = s.portA := rfl
@[simp] theorem advanceTo_portB (n : Nat) (s : State) : (advanceTo n s).portB = s.portB := rfl
@[simp] theorem advanceTo_forwardSet (n : Nat) (s : State) : (advanceTo n s).forwardSet = s.forwardSet := rfl
@[simp] theorem advanceTo_portBQueue (n : Nat) (s : State) : (advanceTo n s).portBQueue = s.portBQueue := rfl
@[simp] theorem advanceTo_uplinkQueue (n : Nat) (s : State) : (advanceTo n s).uplinkQueue = s.uplinkQueue := rfl
@[simp] theorem advanceTo_hidQueue (n : Nat) (s : State) : (advanceTo n s).hidQueue = s.hidQueue := rfl
@[simp] theorem advanceTo_lastServed (n : Nat) (s : State) : (advanceTo n s).lastServed = s.lastServed := rfl
@[simp] theorem advanceTo_lastEventBegan (n : Nat) (s : State) : (advanceTo n s).lastEventBegan = s.lastEventBegan := rfl
@[simp] theorem advanceTo_sources (n : Nat) (s : State) : (advanceTo n s).sources = s.sources := rfl
@[simp] theorem advanceTo_images (n : Nat) (s : State) : (advanceTo n s).images = s.images := rfl
@[simp] theorem advanceTo_imageMem (n : Nat) (s : State) : (advanceTo n s).imageMem = s.imageMem := rfl
@[simp] theorem advanceTo_creation (n : Nat) (s : State) : (advanceTo n s).creation = s.creation := rfl
@[simp] theorem advanceTo_screens (n : Nat) (s : State) : (advanceTo n s).screens = s.screens := rfl
@[simp] theorem advanceTo_pendingLists (n : Nat) (s : State) : (advanceTo n s).pendingLists = s.pendingLists := rfl
@[simp] theorem advanceTo_activeLists (n : Nat) (s : State) : (advanceTo n s).activeLists = s.activeLists := rfl
@[simp] theorem advanceTo_swapPending (n : Nat) (s : State) : (advanceTo n s).swapPending = s.swapPending := rfl
@[simp] theorem advanceTo_presets (n : Nat) (s : State) : (advanceTo n s).presets = s.presets := rfl
@[simp] theorem advanceTo_fences (n : Nat) (s : State) : (advanceTo n s).fences = s.fences := rfl
@[simp] theorem advanceTo_pointer (n : Nat) (s : State) : (advanceTo n s).pointer = s.pointer := rfl
@[simp] theorem advanceTo_layout (n : Nat) (s : State) : (advanceTo n s).layout = s.layout := rfl
@[simp] theorem advanceTo_keyboard (n : Nat) (s : State) : (advanceTo n s).keyboard = s.keyboard := rfl
@[simp] theorem advanceTo_lampMessage (n : Nat) (s : State) : (advanceTo n s).lampMessage = s.lampMessage := rfl
@[simp] theorem advanceTo_lampSent (n : Nat) (s : State) : (advanceTo n s).lampSent = s.lampSent := rfl
@[simp] theorem advanceTo_node (n : Nat) (s : State) : (advanceTo n s).node = s.node := rfl
@[simp] theorem advanceTo_responses (n : Nat) (s : State) : (advanceTo n s).responses = s.responses := rfl
@[simp] theorem advanceTo_controller (n : Nat) (s : State) : (advanceTo n s).controller = s.controller := rfl
@[simp] theorem advanceTo_resetPending (n : Nat) (s : State) : (advanceTo n s).resetPending = s.resetPending := rfl
@[simp] theorem advanceTo_events (n : Nat) (s : State) : (advanceTo n s).events = s.events := rfl
@[simp] theorem advanceTo_eventPending (n : Nat) (s : State) : (advanceTo n s).eventPending = s.eventPending := rfl
@[simp] theorem advanceTo_counters (n : Nat) (s : State) : (advanceTo n s).counters = s.counters := rfl
@[simp] theorem advanceTo_cause (n : Nat) (s : State) : (advanceTo n s).cause = s.cause := rfl
@[simp] theorem advanceTo_resetLine (n : Nat) (s : State) : (advanceTo n s).resetLine = s.resetLine := rfl
@[simp] theorem advanceTo_freeCount (n : Nat) (s : State) : (advanceTo n s).freeCount = s.freeCount := rfl
@[simp] theorem advanceTo_pending (n : Nat) (s : State) : (advanceTo n s).pending = s.pending := rfl

/-! ### tick -/

@[simp] theorem tick_portA (s : State) : (tick s).portA = s.portA := rfl
@[simp] theorem tick_portB (s : State) : (tick s).portB = s.portB := rfl
@[simp] theorem tick_forwardSet (s : State) : (tick s).forwardSet = s.forwardSet := rfl
@[simp] theorem tick_portBQueue (s : State) : (tick s).portBQueue = s.portBQueue := rfl
@[simp] theorem tick_uplinkQueue (s : State) : (tick s).uplinkQueue = s.uplinkQueue := rfl
@[simp] theorem tick_hidQueue (s : State) : (tick s).hidQueue = s.hidQueue := rfl
@[simp] theorem tick_lastServed (s : State) : (tick s).lastServed = s.lastServed := rfl
@[simp] theorem tick_lastEventBegan (s : State) : (tick s).lastEventBegan = s.lastEventBegan := rfl
@[simp] theorem tick_sources (s : State) : (tick s).sources = s.sources := rfl
@[simp] theorem tick_images (s : State) : (tick s).images = s.images := rfl
@[simp] theorem tick_imageMem (s : State) : (tick s).imageMem = s.imageMem := rfl
@[simp] theorem tick_creation (s : State) : (tick s).creation = s.creation := rfl
@[simp] theorem tick_screens (s : State) : (tick s).screens = s.screens := rfl
@[simp] theorem tick_pendingLists (s : State) : (tick s).pendingLists = s.pendingLists := rfl
@[simp] theorem tick_activeLists (s : State) : (tick s).activeLists = s.activeLists := rfl
@[simp] theorem tick_swapPending (s : State) : (tick s).swapPending = s.swapPending := rfl
@[simp] theorem tick_presets (s : State) : (tick s).presets = s.presets := rfl
@[simp] theorem tick_fences (s : State) : (tick s).fences = s.fences := rfl
@[simp] theorem tick_pointer (s : State) : (tick s).pointer = s.pointer := rfl
@[simp] theorem tick_layout (s : State) : (tick s).layout = s.layout := rfl
@[simp] theorem tick_keyboard (s : State) : (tick s).keyboard = s.keyboard := rfl
@[simp] theorem tick_lampMessage (s : State) : (tick s).lampMessage = s.lampMessage := rfl
@[simp] theorem tick_lampSent (s : State) : (tick s).lampSent = s.lampSent := rfl
@[simp] theorem tick_node (s : State) : (tick s).node = s.node := rfl
@[simp] theorem tick_responses (s : State) : (tick s).responses = s.responses := rfl
@[simp] theorem tick_controller (s : State) : (tick s).controller = s.controller := rfl
@[simp] theorem tick_resetPending (s : State) : (tick s).resetPending = s.resetPending := rfl
@[simp] theorem tick_events (s : State) : (tick s).events = s.events := rfl
@[simp] theorem tick_eventPending (s : State) : (tick s).eventPending = s.eventPending := rfl
@[simp] theorem tick_counters (s : State) : (tick s).counters = s.counters := rfl
@[simp] theorem tick_cause (s : State) : (tick s).cause = s.cause := rfl
@[simp] theorem tick_resetLine (s : State) : (tick s).resetLine = s.resetLine := rfl
@[simp] theorem tick_freeCount (s : State) : (tick s).freeCount = s.freeCount := rfl
@[simp] theorem tick_pending (s : State) : (tick s).pending = s.pending := rfl

/-! ### setFlag -/

@[simp] theorem setFlag_portA (f : Flag) (s : State) : (setFlag f s).portA = s.portA := by unfold setFlag; split <;> rfl
@[simp] theorem setFlag_portB (f : Flag) (s : State) : (setFlag f s).portB = s.portB := by unfold setFlag; split <;> rfl
@[simp] theorem setFlag_forwardSet (f : Flag) (s : State) : (setFlag f s).forwardSet = s.forwardSet := by unfold setFlag; split <;> rfl
@[simp] theorem setFlag_portBQueue (f : Flag) (s : State) : (setFlag f s).portBQueue = s.portBQueue := by unfold setFlag; split <;> rfl
@[simp] theorem setFlag_uplinkQueue (f : Flag) (s : State) : (setFlag f s).uplinkQueue = s.uplinkQueue := by unfold setFlag; split <;> rfl
@[simp] theorem setFlag_hidQueue (f : Flag) (s : State) : (setFlag f s).hidQueue = s.hidQueue := by unfold setFlag; split <;> rfl
@[simp] theorem setFlag_lastServed (f : Flag) (s : State) : (setFlag f s).lastServed = s.lastServed := by unfold setFlag; split <;> rfl
@[simp] theorem setFlag_lastEventBegan (f : Flag) (s : State) : (setFlag f s).lastEventBegan = s.lastEventBegan := by unfold setFlag; split <;> rfl
@[simp] theorem setFlag_sources (f : Flag) (s : State) : (setFlag f s).sources = s.sources := by unfold setFlag; split <;> rfl
@[simp] theorem setFlag_images (f : Flag) (s : State) : (setFlag f s).images = s.images := by unfold setFlag; split <;> rfl
@[simp] theorem setFlag_imageMem (f : Flag) (s : State) : (setFlag f s).imageMem = s.imageMem := by unfold setFlag; split <;> rfl
@[simp] theorem setFlag_creation (f : Flag) (s : State) : (setFlag f s).creation = s.creation := by unfold setFlag; split <;> rfl
@[simp] theorem setFlag_screens (f : Flag) (s : State) : (setFlag f s).screens = s.screens := by unfold setFlag; split <;> rfl
@[simp] theorem setFlag_pendingLists (f : Flag) (s : State) : (setFlag f s).pendingLists = s.pendingLists := by unfold setFlag; split <;> rfl
@[simp] theorem setFlag_activeLists (f : Flag) (s : State) : (setFlag f s).activeLists = s.activeLists := by unfold setFlag; split <;> rfl
@[simp] theorem setFlag_swapPending (f : Flag) (s : State) : (setFlag f s).swapPending = s.swapPending := by unfold setFlag; split <;> rfl
@[simp] theorem setFlag_presets (f : Flag) (s : State) : (setFlag f s).presets = s.presets := by unfold setFlag; split <;> rfl
@[simp] theorem setFlag_fences (f : Flag) (s : State) : (setFlag f s).fences = s.fences := by unfold setFlag; split <;> rfl
@[simp] theorem setFlag_pointer (f : Flag) (s : State) : (setFlag f s).pointer = s.pointer := by unfold setFlag; split <;> rfl
@[simp] theorem setFlag_layout (f : Flag) (s : State) : (setFlag f s).layout = s.layout := by unfold setFlag; split <;> rfl
@[simp] theorem setFlag_keyboard (f : Flag) (s : State) : (setFlag f s).keyboard = s.keyboard := by unfold setFlag; split <;> rfl
@[simp] theorem setFlag_lampMessage (f : Flag) (s : State) : (setFlag f s).lampMessage = s.lampMessage := by unfold setFlag; split <;> rfl
@[simp] theorem setFlag_lampSent (f : Flag) (s : State) : (setFlag f s).lampSent = s.lampSent := by unfold setFlag; split <;> rfl
@[simp] theorem setFlag_node (f : Flag) (s : State) : (setFlag f s).node = s.node := by unfold setFlag; split <;> rfl
@[simp] theorem setFlag_responses (f : Flag) (s : State) : (setFlag f s).responses = s.responses := by unfold setFlag; split <;> rfl
@[simp] theorem setFlag_controller (f : Flag) (s : State) : (setFlag f s).controller = s.controller := by unfold setFlag; split <;> rfl
@[simp] theorem setFlag_resetPending (f : Flag) (s : State) : (setFlag f s).resetPending = s.resetPending := by unfold setFlag; split <;> rfl
@[simp] theorem setFlag_counters (f : Flag) (s : State) : (setFlag f s).counters = s.counters := by unfold setFlag; split <;> rfl
@[simp] theorem setFlag_cause (f : Flag) (s : State) : (setFlag f s).cause = s.cause := by unfold setFlag; split <;> rfl
@[simp] theorem setFlag_resetLine (f : Flag) (s : State) : (setFlag f s).resetLine = s.resetLine := by unfold setFlag; split <;> rfl
@[simp] theorem setFlag_now (f : Flag) (s : State) : (setFlag f s).now = s.now := by unfold setFlag; split <;> rfl
@[simp] theorem setFlag_freeCount (f : Flag) (s : State) : (setFlag f s).freeCount = s.freeCount := by unfold setFlag; split <;> rfl
@[simp] theorem setFlag_pending (f : Flag) (s : State) : (setFlag f s).pending = s.pending := by unfold setFlag; split <;> rfl

/-! ### makeDue -/

@[simp] theorem makeDue_portA (i : Slot) (s : State) : (makeDue i s).portA = s.portA := by unfold makeDue; split <;> rfl
@[simp] theorem makeDue_portB (i : Slot) (s : State) : (makeDue i s).portB = s.portB := by unfold makeDue; split <;> rfl
@[simp] theorem makeDue_forwardSet (i : Slot) (s : State) : (makeDue i s).forwardSet = s.forwardSet := by unfold makeDue; split <;> rfl
@[simp] theorem makeDue_portBQueue (i : Slot) (s : State) : (makeDue i s).portBQueue = s.portBQueue := by unfold makeDue; split <;> rfl
@[simp] theorem makeDue_uplinkQueue (i : Slot) (s : State) : (makeDue i s).uplinkQueue = s.uplinkQueue := by unfold makeDue; split <;> rfl
@[simp] theorem makeDue_hidQueue (i : Slot) (s : State) : (makeDue i s).hidQueue = s.hidQueue := by unfold makeDue; split <;> rfl
@[simp] theorem makeDue_lastServed (i : Slot) (s : State) : (makeDue i s).lastServed = s.lastServed := by unfold makeDue; split <;> rfl
@[simp] theorem makeDue_lastEventBegan (i : Slot) (s : State) : (makeDue i s).lastEventBegan = s.lastEventBegan := by unfold makeDue; split <;> rfl
@[simp] theorem makeDue_images (i : Slot) (s : State) : (makeDue i s).images = s.images := by unfold makeDue; split <;> rfl
@[simp] theorem makeDue_imageMem (i : Slot) (s : State) : (makeDue i s).imageMem = s.imageMem := by unfold makeDue; split <;> rfl
@[simp] theorem makeDue_creation (i : Slot) (s : State) : (makeDue i s).creation = s.creation := by unfold makeDue; split <;> rfl
@[simp] theorem makeDue_screens (i : Slot) (s : State) : (makeDue i s).screens = s.screens := by unfold makeDue; split <;> rfl
@[simp] theorem makeDue_pendingLists (i : Slot) (s : State) : (makeDue i s).pendingLists = s.pendingLists := by unfold makeDue; split <;> rfl
@[simp] theorem makeDue_activeLists (i : Slot) (s : State) : (makeDue i s).activeLists = s.activeLists := by unfold makeDue; split <;> rfl
@[simp] theorem makeDue_swapPending (i : Slot) (s : State) : (makeDue i s).swapPending = s.swapPending := by unfold makeDue; split <;> rfl
@[simp] theorem makeDue_presets (i : Slot) (s : State) : (makeDue i s).presets = s.presets := by unfold makeDue; split <;> rfl
@[simp] theorem makeDue_fences (i : Slot) (s : State) : (makeDue i s).fences = s.fences := by unfold makeDue; split <;> rfl
@[simp] theorem makeDue_pointer (i : Slot) (s : State) : (makeDue i s).pointer = s.pointer := by unfold makeDue; split <;> rfl
@[simp] theorem makeDue_layout (i : Slot) (s : State) : (makeDue i s).layout = s.layout := by unfold makeDue; split <;> rfl
@[simp] theorem makeDue_keyboard (i : Slot) (s : State) : (makeDue i s).keyboard = s.keyboard := by unfold makeDue; split <;> rfl
@[simp] theorem makeDue_lampMessage (i : Slot) (s : State) : (makeDue i s).lampMessage = s.lampMessage := by unfold makeDue; split <;> rfl
@[simp] theorem makeDue_lampSent (i : Slot) (s : State) : (makeDue i s).lampSent = s.lampSent := by unfold makeDue; split <;> rfl
@[simp] theorem makeDue_node (i : Slot) (s : State) : (makeDue i s).node = s.node := by unfold makeDue; split <;> rfl
@[simp] theorem makeDue_responses (i : Slot) (s : State) : (makeDue i s).responses = s.responses := by unfold makeDue; split <;> rfl
@[simp] theorem makeDue_controller (i : Slot) (s : State) : (makeDue i s).controller = s.controller := by unfold makeDue; split <;> rfl
@[simp] theorem makeDue_resetPending (i : Slot) (s : State) : (makeDue i s).resetPending = s.resetPending := by unfold makeDue; split <;> rfl
@[simp] theorem makeDue_events (i : Slot) (s : State) : (makeDue i s).events = s.events := by unfold makeDue; split <;> rfl
@[simp] theorem makeDue_eventPending (i : Slot) (s : State) : (makeDue i s).eventPending = s.eventPending := by unfold makeDue; split <;> rfl
@[simp] theorem makeDue_counters (i : Slot) (s : State) : (makeDue i s).counters = s.counters := by unfold makeDue; split <;> rfl
@[simp] theorem makeDue_cause (i : Slot) (s : State) : (makeDue i s).cause = s.cause := by unfold makeDue; split <;> rfl
@[simp] theorem makeDue_resetLine (i : Slot) (s : State) : (makeDue i s).resetLine = s.resetLine := by unfold makeDue; split <;> rfl
@[simp] theorem makeDue_now (i : Slot) (s : State) : (makeDue i s).now = s.now := by unfold makeDue; split <;> rfl
@[simp] theorem makeDue_freeCount (i : Slot) (s : State) : (makeDue i s).freeCount = s.freeCount := by unfold makeDue; split <;> rfl
@[simp] theorem makeDue_pending (i : Slot) (s : State) : (makeDue i s).pending = s.pending := by unfold makeDue; split <;> rfl

/-! ### setHalfFlag -/

@[simp] theorem setHalfFlag_portA (i : Slot) (f : HalfFlag) (v : Bool) (s : State) : (setHalfFlag i f v s).portA = s.portA := by unfold setHalfFlag; split <;> simp
@[simp] theorem setHalfFlag_portB (i : Slot) (f : HalfFlag) (v : Bool) (s : State) : (setHalfFlag i f v s).portB = s.portB := by unfold setHalfFlag; split <;> simp
@[simp] theorem setHalfFlag_forwardSet (i : Slot) (f : HalfFlag) (v : Bool) (s : State) : (setHalfFlag i f v s).forwardSet = s.forwardSet := by unfold setHalfFlag; split <;> simp
@[simp] theorem setHalfFlag_portBQueue (i : Slot) (f : HalfFlag) (v : Bool) (s : State) : (setHalfFlag i f v s).portBQueue = s.portBQueue := by unfold setHalfFlag; split <;> simp
@[simp] theorem setHalfFlag_uplinkQueue (i : Slot) (f : HalfFlag) (v : Bool) (s : State) : (setHalfFlag i f v s).uplinkQueue = s.uplinkQueue := by unfold setHalfFlag; split <;> simp
@[simp] theorem setHalfFlag_hidQueue (i : Slot) (f : HalfFlag) (v : Bool) (s : State) : (setHalfFlag i f v s).hidQueue = s.hidQueue := by unfold setHalfFlag; split <;> simp
@[simp] theorem setHalfFlag_lastServed (i : Slot) (f : HalfFlag) (v : Bool) (s : State) : (setHalfFlag i f v s).lastServed = s.lastServed := by unfold setHalfFlag; split <;> simp
@[simp] theorem setHalfFlag_lastEventBegan (i : Slot) (f : HalfFlag) (v : Bool) (s : State) : (setHalfFlag i f v s).lastEventBegan = s.lastEventBegan := by unfold setHalfFlag; split <;> simp
@[simp] theorem setHalfFlag_images (i : Slot) (f : HalfFlag) (v : Bool) (s : State) : (setHalfFlag i f v s).images = s.images := by unfold setHalfFlag; split <;> simp
@[simp] theorem setHalfFlag_imageMem (i : Slot) (f : HalfFlag) (v : Bool) (s : State) : (setHalfFlag i f v s).imageMem = s.imageMem := by unfold setHalfFlag; split <;> simp
@[simp] theorem setHalfFlag_creation (i : Slot) (f : HalfFlag) (v : Bool) (s : State) : (setHalfFlag i f v s).creation = s.creation := by unfold setHalfFlag; split <;> simp
@[simp] theorem setHalfFlag_screens (i : Slot) (f : HalfFlag) (v : Bool) (s : State) : (setHalfFlag i f v s).screens = s.screens := by unfold setHalfFlag; split <;> simp
@[simp] theorem setHalfFlag_pendingLists (i : Slot) (f : HalfFlag) (v : Bool) (s : State) : (setHalfFlag i f v s).pendingLists = s.pendingLists := by unfold setHalfFlag; split <;> simp
@[simp] theorem setHalfFlag_activeLists (i : Slot) (f : HalfFlag) (v : Bool) (s : State) : (setHalfFlag i f v s).activeLists = s.activeLists := by unfold setHalfFlag; split <;> simp
@[simp] theorem setHalfFlag_swapPending (i : Slot) (f : HalfFlag) (v : Bool) (s : State) : (setHalfFlag i f v s).swapPending = s.swapPending := by unfold setHalfFlag; split <;> simp
@[simp] theorem setHalfFlag_presets (i : Slot) (f : HalfFlag) (v : Bool) (s : State) : (setHalfFlag i f v s).presets = s.presets := by unfold setHalfFlag; split <;> simp
@[simp] theorem setHalfFlag_fences (i : Slot) (f : HalfFlag) (v : Bool) (s : State) : (setHalfFlag i f v s).fences = s.fences := by unfold setHalfFlag; split <;> simp
@[simp] theorem setHalfFlag_pointer (i : Slot) (f : HalfFlag) (v : Bool) (s : State) : (setHalfFlag i f v s).pointer = s.pointer := by unfold setHalfFlag; split <;> simp
@[simp] theorem setHalfFlag_layout (i : Slot) (f : HalfFlag) (v : Bool) (s : State) : (setHalfFlag i f v s).layout = s.layout := by unfold setHalfFlag; split <;> simp
@[simp] theorem setHalfFlag_keyboard (i : Slot) (f : HalfFlag) (v : Bool) (s : State) : (setHalfFlag i f v s).keyboard = s.keyboard := by unfold setHalfFlag; split <;> simp
@[simp] theorem setHalfFlag_lampMessage (i : Slot) (f : HalfFlag) (v : Bool) (s : State) : (setHalfFlag i f v s).lampMessage = s.lampMessage := by unfold setHalfFlag; split <;> simp
@[simp] theorem setHalfFlag_lampSent (i : Slot) (f : HalfFlag) (v : Bool) (s : State) : (setHalfFlag i f v s).lampSent = s.lampSent := by unfold setHalfFlag; split <;> simp
@[simp] theorem setHalfFlag_node (i : Slot) (f : HalfFlag) (v : Bool) (s : State) : (setHalfFlag i f v s).node = s.node := by unfold setHalfFlag; split <;> simp
@[simp] theorem setHalfFlag_responses (i : Slot) (f : HalfFlag) (v : Bool) (s : State) : (setHalfFlag i f v s).responses = s.responses := by unfold setHalfFlag; split <;> simp
@[simp] theorem setHalfFlag_controller (i : Slot) (f : HalfFlag) (v : Bool) (s : State) : (setHalfFlag i f v s).controller = s.controller := by unfold setHalfFlag; split <;> simp
@[simp] theorem setHalfFlag_resetPending (i : Slot) (f : HalfFlag) (v : Bool) (s : State) : (setHalfFlag i f v s).resetPending = s.resetPending := by unfold setHalfFlag; split <;> simp
@[simp] theorem setHalfFlag_events (i : Slot) (f : HalfFlag) (v : Bool) (s : State) : (setHalfFlag i f v s).events = s.events := by unfold setHalfFlag; split <;> simp
@[simp] theorem setHalfFlag_eventPending (i : Slot) (f : HalfFlag) (v : Bool) (s : State) : (setHalfFlag i f v s).eventPending = s.eventPending := by unfold setHalfFlag; split <;> simp
@[simp] theorem setHalfFlag_counters (i : Slot) (f : HalfFlag) (v : Bool) (s : State) : (setHalfFlag i f v s).counters = s.counters := by unfold setHalfFlag; split <;> simp
@[simp] theorem setHalfFlag_cause (i : Slot) (f : HalfFlag) (v : Bool) (s : State) : (setHalfFlag i f v s).cause = s.cause := by unfold setHalfFlag; split <;> simp
@[simp] theorem setHalfFlag_resetLine (i : Slot) (f : HalfFlag) (v : Bool) (s : State) : (setHalfFlag i f v s).resetLine = s.resetLine := by unfold setHalfFlag; split <;> simp
@[simp] theorem setHalfFlag_now (i : Slot) (f : HalfFlag) (v : Bool) (s : State) : (setHalfFlag i f v s).now = s.now := by unfold setHalfFlag; split <;> simp
@[simp] theorem setHalfFlag_freeCount (i : Slot) (f : HalfFlag) (v : Bool) (s : State) : (setHalfFlag i f v s).freeCount = s.freeCount := by unfold setHalfFlag; split <;> simp
@[simp] theorem setHalfFlag_pending (i : Slot) (f : HalfFlag) (v : Bool) (s : State) : (setHalfFlag i f v s).pending = s.pending := by unfold setHalfFlag; split <;> simp

/-! ### pushResponse -/

@[simp] theorem pushResponse_portA (r : Response) (s : State) : (pushResponse r s).portA = s.portA := by unfold pushResponse; split <;> rfl
@[simp] theorem pushResponse_portB (r : Response) (s : State) : (pushResponse r s).portB = s.portB := by unfold pushResponse; split <;> rfl
@[simp] theorem pushResponse_forwardSet (r : Response) (s : State) : (pushResponse r s).forwardSet = s.forwardSet := by unfold pushResponse; split <;> rfl
@[simp] theorem pushResponse_portBQueue (r : Response) (s : State) : (pushResponse r s).portBQueue = s.portBQueue := by unfold pushResponse; split <;> rfl
@[simp] theorem pushResponse_uplinkQueue (r : Response) (s : State) : (pushResponse r s).uplinkQueue = s.uplinkQueue := by unfold pushResponse; split <;> rfl
@[simp] theorem pushResponse_hidQueue (r : Response) (s : State) : (pushResponse r s).hidQueue = s.hidQueue := by unfold pushResponse; split <;> rfl
@[simp] theorem pushResponse_lastServed (r : Response) (s : State) : (pushResponse r s).lastServed = s.lastServed := by unfold pushResponse; split <;> rfl
@[simp] theorem pushResponse_lastEventBegan (r : Response) (s : State) : (pushResponse r s).lastEventBegan = s.lastEventBegan := by unfold pushResponse; split <;> rfl
@[simp] theorem pushResponse_sources (r : Response) (s : State) : (pushResponse r s).sources = s.sources := by unfold pushResponse; split <;> rfl
@[simp] theorem pushResponse_images (r : Response) (s : State) : (pushResponse r s).images = s.images := by unfold pushResponse; split <;> rfl
@[simp] theorem pushResponse_imageMem (r : Response) (s : State) : (pushResponse r s).imageMem = s.imageMem := by unfold pushResponse; split <;> rfl
@[simp] theorem pushResponse_creation (r : Response) (s : State) : (pushResponse r s).creation = s.creation := by unfold pushResponse; split <;> rfl
@[simp] theorem pushResponse_screens (r : Response) (s : State) : (pushResponse r s).screens = s.screens := by unfold pushResponse; split <;> rfl
@[simp] theorem pushResponse_pendingLists (r : Response) (s : State) : (pushResponse r s).pendingLists = s.pendingLists := by unfold pushResponse; split <;> rfl
@[simp] theorem pushResponse_activeLists (r : Response) (s : State) : (pushResponse r s).activeLists = s.activeLists := by unfold pushResponse; split <;> rfl
@[simp] theorem pushResponse_swapPending (r : Response) (s : State) : (pushResponse r s).swapPending = s.swapPending := by unfold pushResponse; split <;> rfl
@[simp] theorem pushResponse_presets (r : Response) (s : State) : (pushResponse r s).presets = s.presets := by unfold pushResponse; split <;> rfl
@[simp] theorem pushResponse_fences (r : Response) (s : State) : (pushResponse r s).fences = s.fences := by unfold pushResponse; split <;> rfl
@[simp] theorem pushResponse_pointer (r : Response) (s : State) : (pushResponse r s).pointer = s.pointer := by unfold pushResponse; split <;> rfl
@[simp] theorem pushResponse_layout (r : Response) (s : State) : (pushResponse r s).layout = s.layout := by unfold pushResponse; split <;> rfl
@[simp] theorem pushResponse_keyboard (r : Response) (s : State) : (pushResponse r s).keyboard = s.keyboard := by unfold pushResponse; split <;> rfl
@[simp] theorem pushResponse_lampMessage (r : Response) (s : State) : (pushResponse r s).lampMessage = s.lampMessage := by unfold pushResponse; split <;> rfl
@[simp] theorem pushResponse_lampSent (r : Response) (s : State) : (pushResponse r s).lampSent = s.lampSent := by unfold pushResponse; split <;> rfl
@[simp] theorem pushResponse_node (r : Response) (s : State) : (pushResponse r s).node = s.node := by unfold pushResponse; split <;> rfl
@[simp] theorem pushResponse_controller (r : Response) (s : State) : (pushResponse r s).controller = s.controller := by unfold pushResponse; split <;> rfl
@[simp] theorem pushResponse_resetPending (r : Response) (s : State) : (pushResponse r s).resetPending = s.resetPending := by unfold pushResponse; split <;> rfl
@[simp] theorem pushResponse_events (r : Response) (s : State) : (pushResponse r s).events = s.events := by unfold pushResponse; split <;> rfl
@[simp] theorem pushResponse_eventPending (r : Response) (s : State) : (pushResponse r s).eventPending = s.eventPending := by unfold pushResponse; split <;> rfl
@[simp] theorem pushResponse_cause (r : Response) (s : State) : (pushResponse r s).cause = s.cause := by unfold pushResponse; split <;> rfl
@[simp] theorem pushResponse_resetLine (r : Response) (s : State) : (pushResponse r s).resetLine = s.resetLine := by unfold pushResponse; split <;> rfl
@[simp] theorem pushResponse_now (r : Response) (s : State) : (pushResponse r s).now = s.now := by unfold pushResponse; split <;> rfl
@[simp] theorem pushResponse_freeCount (r : Response) (s : State) : (pushResponse r s).freeCount = s.freeCount := by unfold pushResponse; split <;> rfl
@[simp] theorem pushResponse_pending (r : Response) (s : State) : (pushResponse r s).pending = s.pending := by unfold pushResponse; split <;> rfl

/-! ### respond -/

@[simp] theorem respond_portA (r : Request) (st : Status) (l : List Byte) (s : State) : (respond r st l s).portA = s.portA := by simp [respond]
@[simp] theorem respond_portB (r : Request) (st : Status) (l : List Byte) (s : State) : (respond r st l s).portB = s.portB := by simp [respond]
@[simp] theorem respond_forwardSet (r : Request) (st : Status) (l : List Byte) (s : State) : (respond r st l s).forwardSet = s.forwardSet := by simp [respond]
@[simp] theorem respond_portBQueue (r : Request) (st : Status) (l : List Byte) (s : State) : (respond r st l s).portBQueue = s.portBQueue := by simp [respond]
@[simp] theorem respond_uplinkQueue (r : Request) (st : Status) (l : List Byte) (s : State) : (respond r st l s).uplinkQueue = s.uplinkQueue := by simp [respond]
@[simp] theorem respond_hidQueue (r : Request) (st : Status) (l : List Byte) (s : State) : (respond r st l s).hidQueue = s.hidQueue := by simp [respond]
@[simp] theorem respond_lastServed (r : Request) (st : Status) (l : List Byte) (s : State) : (respond r st l s).lastServed = s.lastServed := by simp [respond]
@[simp] theorem respond_lastEventBegan (r : Request) (st : Status) (l : List Byte) (s : State) : (respond r st l s).lastEventBegan = s.lastEventBegan := by simp [respond]
@[simp] theorem respond_sources (r : Request) (st : Status) (l : List Byte) (s : State) : (respond r st l s).sources = s.sources := by simp [respond]
@[simp] theorem respond_images (r : Request) (st : Status) (l : List Byte) (s : State) : (respond r st l s).images = s.images := by simp [respond]
@[simp] theorem respond_imageMem (r : Request) (st : Status) (l : List Byte) (s : State) : (respond r st l s).imageMem = s.imageMem := by simp [respond]
@[simp] theorem respond_creation (r : Request) (st : Status) (l : List Byte) (s : State) : (respond r st l s).creation = s.creation := by simp [respond]
@[simp] theorem respond_screens (r : Request) (st : Status) (l : List Byte) (s : State) : (respond r st l s).screens = s.screens := by simp [respond]
@[simp] theorem respond_pendingLists (r : Request) (st : Status) (l : List Byte) (s : State) : (respond r st l s).pendingLists = s.pendingLists := by simp [respond]
@[simp] theorem respond_activeLists (r : Request) (st : Status) (l : List Byte) (s : State) : (respond r st l s).activeLists = s.activeLists := by simp [respond]
@[simp] theorem respond_swapPending (r : Request) (st : Status) (l : List Byte) (s : State) : (respond r st l s).swapPending = s.swapPending := by simp [respond]
@[simp] theorem respond_presets (r : Request) (st : Status) (l : List Byte) (s : State) : (respond r st l s).presets = s.presets := by simp [respond]
@[simp] theorem respond_fences (r : Request) (st : Status) (l : List Byte) (s : State) : (respond r st l s).fences = s.fences := by simp [respond]
@[simp] theorem respond_pointer (r : Request) (st : Status) (l : List Byte) (s : State) : (respond r st l s).pointer = s.pointer := by simp [respond]
@[simp] theorem respond_layout (r : Request) (st : Status) (l : List Byte) (s : State) : (respond r st l s).layout = s.layout := by simp [respond]
@[simp] theorem respond_keyboard (r : Request) (st : Status) (l : List Byte) (s : State) : (respond r st l s).keyboard = s.keyboard := by simp [respond]
@[simp] theorem respond_lampMessage (r : Request) (st : Status) (l : List Byte) (s : State) : (respond r st l s).lampMessage = s.lampMessage := by simp [respond]
@[simp] theorem respond_lampSent (r : Request) (st : Status) (l : List Byte) (s : State) : (respond r st l s).lampSent = s.lampSent := by simp [respond]
@[simp] theorem respond_node (r : Request) (st : Status) (l : List Byte) (s : State) : (respond r st l s).node = s.node := by simp [respond]
@[simp] theorem respond_controller (r : Request) (st : Status) (l : List Byte) (s : State) : (respond r st l s).controller = s.controller := by simp [respond]
@[simp] theorem respond_resetPending (r : Request) (st : Status) (l : List Byte) (s : State) : (respond r st l s).resetPending = s.resetPending := by simp [respond]
@[simp] theorem respond_events (r : Request) (st : Status) (l : List Byte) (s : State) : (respond r st l s).events = s.events := by simp [respond]
@[simp] theorem respond_eventPending (r : Request) (st : Status) (l : List Byte) (s : State) : (respond r st l s).eventPending = s.eventPending := by simp [respond]
@[simp] theorem respond_cause (r : Request) (st : Status) (l : List Byte) (s : State) : (respond r st l s).cause = s.cause := by simp [respond]
@[simp] theorem respond_resetLine (r : Request) (st : Status) (l : List Byte) (s : State) : (respond r st l s).resetLine = s.resetLine := by simp [respond]
@[simp] theorem respond_now (r : Request) (st : Status) (l : List Byte) (s : State) : (respond r st l s).now = s.now := by simp [respond]
@[simp] theorem respond_freeCount (r : Request) (st : Status) (l : List Byte) (s : State) : (respond r st l s).freeCount = s.freeCount := by simp [respond]
@[simp] theorem respond_pending (r : Request) (st : Status) (l : List Byte) (s : State) : (respond r st l s).pending = s.pending := by simp [respond]

/-! ### offerB -/

@[simp] theorem offerB_portA (c : Cell) (s : State) : (offerB c s).portA = s.portA := by unfold offerB; split <;> rfl
@[simp] theorem offerB_portB (c : Cell) (s : State) : (offerB c s).portB = s.portB := by unfold offerB; split <;> rfl
@[simp] theorem offerB_forwardSet (c : Cell) (s : State) : (offerB c s).forwardSet = s.forwardSet := by unfold offerB; split <;> rfl
@[simp] theorem offerB_uplinkQueue (c : Cell) (s : State) : (offerB c s).uplinkQueue = s.uplinkQueue := by unfold offerB; split <;> rfl
@[simp] theorem offerB_hidQueue (c : Cell) (s : State) : (offerB c s).hidQueue = s.hidQueue := by unfold offerB; split <;> rfl
@[simp] theorem offerB_lastServed (c : Cell) (s : State) : (offerB c s).lastServed = s.lastServed := by unfold offerB; split <;> rfl
@[simp] theorem offerB_lastEventBegan (c : Cell) (s : State) : (offerB c s).lastEventBegan = s.lastEventBegan := by unfold offerB; split <;> rfl
@[simp] theorem offerB_sources (c : Cell) (s : State) : (offerB c s).sources = s.sources := by unfold offerB; split <;> rfl
@[simp] theorem offerB_images (c : Cell) (s : State) : (offerB c s).images = s.images := by unfold offerB; split <;> rfl
@[simp] theorem offerB_imageMem (c : Cell) (s : State) : (offerB c s).imageMem = s.imageMem := by unfold offerB; split <;> rfl
@[simp] theorem offerB_creation (c : Cell) (s : State) : (offerB c s).creation = s.creation := by unfold offerB; split <;> rfl
@[simp] theorem offerB_screens (c : Cell) (s : State) : (offerB c s).screens = s.screens := by unfold offerB; split <;> rfl
@[simp] theorem offerB_pendingLists (c : Cell) (s : State) : (offerB c s).pendingLists = s.pendingLists := by unfold offerB; split <;> rfl
@[simp] theorem offerB_activeLists (c : Cell) (s : State) : (offerB c s).activeLists = s.activeLists := by unfold offerB; split <;> rfl
@[simp] theorem offerB_swapPending (c : Cell) (s : State) : (offerB c s).swapPending = s.swapPending := by unfold offerB; split <;> rfl
@[simp] theorem offerB_presets (c : Cell) (s : State) : (offerB c s).presets = s.presets := by unfold offerB; split <;> rfl
@[simp] theorem offerB_fences (c : Cell) (s : State) : (offerB c s).fences = s.fences := by unfold offerB; split <;> rfl
@[simp] theorem offerB_pointer (c : Cell) (s : State) : (offerB c s).pointer = s.pointer := by unfold offerB; split <;> rfl
@[simp] theorem offerB_layout (c : Cell) (s : State) : (offerB c s).layout = s.layout := by unfold offerB; split <;> rfl
@[simp] theorem offerB_keyboard (c : Cell) (s : State) : (offerB c s).keyboard = s.keyboard := by unfold offerB; split <;> rfl
@[simp] theorem offerB_lampMessage (c : Cell) (s : State) : (offerB c s).lampMessage = s.lampMessage := by unfold offerB; split <;> rfl
@[simp] theorem offerB_lampSent (c : Cell) (s : State) : (offerB c s).lampSent = s.lampSent := by unfold offerB; split <;> rfl
@[simp] theorem offerB_node (c : Cell) (s : State) : (offerB c s).node = s.node := by unfold offerB; split <;> rfl
@[simp] theorem offerB_responses (c : Cell) (s : State) : (offerB c s).responses = s.responses := by unfold offerB; split <;> rfl
@[simp] theorem offerB_controller (c : Cell) (s : State) : (offerB c s).controller = s.controller := by unfold offerB; split <;> rfl
@[simp] theorem offerB_resetPending (c : Cell) (s : State) : (offerB c s).resetPending = s.resetPending := by unfold offerB; split <;> rfl
@[simp] theorem offerB_events (c : Cell) (s : State) : (offerB c s).events = s.events := by unfold offerB; split <;> rfl
@[simp] theorem offerB_eventPending (c : Cell) (s : State) : (offerB c s).eventPending = s.eventPending := by unfold offerB; split <;> rfl
@[simp] theorem offerB_cause (c : Cell) (s : State) : (offerB c s).cause = s.cause := by unfold offerB; split <;> rfl
@[simp] theorem offerB_resetLine (c : Cell) (s : State) : (offerB c s).resetLine = s.resetLine := by unfold offerB; split <;> rfl
@[simp] theorem offerB_now (c : Cell) (s : State) : (offerB c s).now = s.now := by unfold offerB; split <;> rfl
@[simp] theorem offerB_freeCount (c : Cell) (s : State) : (offerB c s).freeCount = s.freeCount := by unfold offerB; split <;> rfl
@[simp] theorem offerB_pending (c : Cell) (s : State) : (offerB c s).pending = s.pending := by unfold offerB; split <;> rfl

/-! ### freeImage -/

@[simp] theorem freeImage_portA (x : ImageIx) (s : State) : (freeImage x s).portA = s.portA := rfl
@[simp] theorem freeImage_portB (x : ImageIx) (s : State) : (freeImage x s).portB = s.portB := rfl
@[simp] theorem freeImage_forwardSet (x : ImageIx) (s : State) : (freeImage x s).forwardSet = s.forwardSet := rfl
@[simp] theorem freeImage_portBQueue (x : ImageIx) (s : State) : (freeImage x s).portBQueue = s.portBQueue := rfl
@[simp] theorem freeImage_uplinkQueue (x : ImageIx) (s : State) : (freeImage x s).uplinkQueue = s.uplinkQueue := rfl
@[simp] theorem freeImage_hidQueue (x : ImageIx) (s : State) : (freeImage x s).hidQueue = s.hidQueue := rfl
@[simp] theorem freeImage_lastServed (x : ImageIx) (s : State) : (freeImage x s).lastServed = s.lastServed := rfl
@[simp] theorem freeImage_lastEventBegan (x : ImageIx) (s : State) : (freeImage x s).lastEventBegan = s.lastEventBegan := rfl
@[simp] theorem freeImage_sources (x : ImageIx) (s : State) : (freeImage x s).sources = s.sources := rfl
@[simp] theorem freeImage_imageMem (x : ImageIx) (s : State) : (freeImage x s).imageMem = s.imageMem := rfl
@[simp] theorem freeImage_creation (x : ImageIx) (s : State) : (freeImage x s).creation = s.creation := rfl
@[simp] theorem freeImage_screens (x : ImageIx) (s : State) : (freeImage x s).screens = s.screens := rfl
@[simp] theorem freeImage_pendingLists (x : ImageIx) (s : State) : (freeImage x s).pendingLists = s.pendingLists := rfl
@[simp] theorem freeImage_activeLists (x : ImageIx) (s : State) : (freeImage x s).activeLists = s.activeLists := rfl
@[simp] theorem freeImage_swapPending (x : ImageIx) (s : State) : (freeImage x s).swapPending = s.swapPending := rfl
@[simp] theorem freeImage_presets (x : ImageIx) (s : State) : (freeImage x s).presets = s.presets := rfl
@[simp] theorem freeImage_fences (x : ImageIx) (s : State) : (freeImage x s).fences = s.fences := rfl
@[simp] theorem freeImage_pointer (x : ImageIx) (s : State) : (freeImage x s).pointer = s.pointer := rfl
@[simp] theorem freeImage_layout (x : ImageIx) (s : State) : (freeImage x s).layout = s.layout := rfl
@[simp] theorem freeImage_keyboard (x : ImageIx) (s : State) : (freeImage x s).keyboard = s.keyboard := rfl
@[simp] theorem freeImage_lampMessage (x : ImageIx) (s : State) : (freeImage x s).lampMessage = s.lampMessage := rfl
@[simp] theorem freeImage_lampSent (x : ImageIx) (s : State) : (freeImage x s).lampSent = s.lampSent := rfl
@[simp] theorem freeImage_node (x : ImageIx) (s : State) : (freeImage x s).node = s.node := rfl
@[simp] theorem freeImage_responses (x : ImageIx) (s : State) : (freeImage x s).responses = s.responses := rfl
@[simp] theorem freeImage_controller (x : ImageIx) (s : State) : (freeImage x s).controller = s.controller := rfl
@[simp] theorem freeImage_resetPending (x : ImageIx) (s : State) : (freeImage x s).resetPending = s.resetPending := rfl
@[simp] theorem freeImage_events (x : ImageIx) (s : State) : (freeImage x s).events = s.events := rfl
@[simp] theorem freeImage_eventPending (x : ImageIx) (s : State) : (freeImage x s).eventPending = s.eventPending := rfl
@[simp] theorem freeImage_counters (x : ImageIx) (s : State) : (freeImage x s).counters = s.counters := rfl
@[simp] theorem freeImage_cause (x : ImageIx) (s : State) : (freeImage x s).cause = s.cause := rfl
@[simp] theorem freeImage_resetLine (x : ImageIx) (s : State) : (freeImage x s).resetLine = s.resetLine := rfl
@[simp] theorem freeImage_now (x : ImageIx) (s : State) : (freeImage x s).now = s.now := rfl
@[simp] theorem freeImage_freeCount (x : ImageIx) (s : State) : (freeImage x s).freeCount = s.freeCount := rfl
@[simp] theorem freeImage_pending (x : ImageIx) (s : State) : (freeImage x s).pending = s.pending := rfl

/-! ### modTrack -/

@[simp] theorem modTrack_portA (x : ImageIx) (f : Tracking → Tracking) (s : State) : (modTrack x f s).portA = s.portA := rfl
@[simp] theorem modTrack_portB (x : ImageIx) (f : Tracking → Tracking) (s : State) : (modTrack x f s).portB = s.portB := rfl
@[simp] theorem modTrack_forwardSet (x : ImageIx) (f : Tracking → Tracking) (s : State) : (modTrack x f s).forwardSet = s.forwardSet := rfl
@[simp] theorem modTrack_portBQueue (x : ImageIx) (f : Tracking → Tracking) (s : State) : (modTrack x f s).portBQueue = s.portBQueue := rfl
@[simp] theorem modTrack_uplinkQueue (x : ImageIx) (f : Tracking → Tracking) (s : State) : (modTrack x f s).uplinkQueue = s.uplinkQueue := rfl
@[simp] theorem modTrack_hidQueue (x : ImageIx) (f : Tracking → Tracking) (s : State) : (modTrack x f s).hidQueue = s.hidQueue := rfl
@[simp] theorem modTrack_lastServed (x : ImageIx) (f : Tracking → Tracking) (s : State) : (modTrack x f s).lastServed = s.lastServed := rfl
@[simp] theorem modTrack_lastEventBegan (x : ImageIx) (f : Tracking → Tracking) (s : State) : (modTrack x f s).lastEventBegan = s.lastEventBegan := rfl
@[simp] theorem modTrack_sources (x : ImageIx) (f : Tracking → Tracking) (s : State) : (modTrack x f s).sources = s.sources := rfl
@[simp] theorem modTrack_imageMem (x : ImageIx) (f : Tracking → Tracking) (s : State) : (modTrack x f s).imageMem = s.imageMem := rfl
@[simp] theorem modTrack_creation (x : ImageIx) (f : Tracking → Tracking) (s : State) : (modTrack x f s).creation = s.creation := rfl
@[simp] theorem modTrack_screens (x : ImageIx) (f : Tracking → Tracking) (s : State) : (modTrack x f s).screens = s.screens := rfl
@[simp] theorem modTrack_pendingLists (x : ImageIx) (f : Tracking → Tracking) (s : State) : (modTrack x f s).pendingLists = s.pendingLists := rfl
@[simp] theorem modTrack_activeLists (x : ImageIx) (f : Tracking → Tracking) (s : State) : (modTrack x f s).activeLists = s.activeLists := rfl
@[simp] theorem modTrack_swapPending (x : ImageIx) (f : Tracking → Tracking) (s : State) : (modTrack x f s).swapPending = s.swapPending := rfl
@[simp] theorem modTrack_presets (x : ImageIx) (f : Tracking → Tracking) (s : State) : (modTrack x f s).presets = s.presets := rfl
@[simp] theorem modTrack_fences (x : ImageIx) (f : Tracking → Tracking) (s : State) : (modTrack x f s).fences = s.fences := rfl
@[simp] theorem modTrack_pointer (x : ImageIx) (f : Tracking → Tracking) (s : State) : (modTrack x f s).pointer = s.pointer := rfl
@[simp] theorem modTrack_layout (x : ImageIx) (f : Tracking → Tracking) (s : State) : (modTrack x f s).layout = s.layout := rfl
@[simp] theorem modTrack_keyboard (x : ImageIx) (f : Tracking → Tracking) (s : State) : (modTrack x f s).keyboard = s.keyboard := rfl
@[simp] theorem modTrack_lampMessage (x : ImageIx) (f : Tracking → Tracking) (s : State) : (modTrack x f s).lampMessage = s.lampMessage := rfl
@[simp] theorem modTrack_lampSent (x : ImageIx) (f : Tracking → Tracking) (s : State) : (modTrack x f s).lampSent = s.lampSent := rfl
@[simp] theorem modTrack_node (x : ImageIx) (f : Tracking → Tracking) (s : State) : (modTrack x f s).node = s.node := rfl
@[simp] theorem modTrack_responses (x : ImageIx) (f : Tracking → Tracking) (s : State) : (modTrack x f s).responses = s.responses := rfl
@[simp] theorem modTrack_controller (x : ImageIx) (f : Tracking → Tracking) (s : State) : (modTrack x f s).controller = s.controller := rfl
@[simp] theorem modTrack_resetPending (x : ImageIx) (f : Tracking → Tracking) (s : State) : (modTrack x f s).resetPending = s.resetPending := rfl
@[simp] theorem modTrack_events (x : ImageIx) (f : Tracking → Tracking) (s : State) : (modTrack x f s).events = s.events := rfl
@[simp] theorem modTrack_eventPending (x : ImageIx) (f : Tracking → Tracking) (s : State) : (modTrack x f s).eventPending = s.eventPending := rfl
@[simp] theorem modTrack_counters (x : ImageIx) (f : Tracking → Tracking) (s : State) : (modTrack x f s).counters = s.counters := rfl
@[simp] theorem modTrack_cause (x : ImageIx) (f : Tracking → Tracking) (s : State) : (modTrack x f s).cause = s.cause := rfl
@[simp] theorem modTrack_resetLine (x : ImageIx) (f : Tracking → Tracking) (s : State) : (modTrack x f s).resetLine = s.resetLine := rfl
@[simp] theorem modTrack_now (x : ImageIx) (f : Tracking → Tracking) (s : State) : (modTrack x f s).now = s.now := rfl
@[simp] theorem modTrack_freeCount (x : ImageIx) (f : Tracking → Tracking) (s : State) : (modTrack x f s).freeCount = s.freeCount := rfl
@[simp] theorem modTrack_pending (x : ImageIx) (f : Tracking → Tracking) (s : State) : (modTrack x f s).pending = s.pending := rfl

/-! ### clearResidues -/

@[simp] theorem clearResidues_portA (s : State) : (clearResidues s).portA = s.portA := rfl
@[simp] theorem clearResidues_portB (s : State) : (clearResidues s).portB = s.portB := rfl
@[simp] theorem clearResidues_forwardSet (s : State) : (clearResidues s).forwardSet = s.forwardSet := rfl
@[simp] theorem clearResidues_portBQueue (s : State) : (clearResidues s).portBQueue = s.portBQueue := rfl
@[simp] theorem clearResidues_uplinkQueue (s : State) : (clearResidues s).uplinkQueue = s.uplinkQueue := rfl
@[simp] theorem clearResidues_hidQueue (s : State) : (clearResidues s).hidQueue = s.hidQueue := rfl
@[simp] theorem clearResidues_lastServed (s : State) : (clearResidues s).lastServed = s.lastServed := rfl
@[simp] theorem clearResidues_lastEventBegan (s : State) : (clearResidues s).lastEventBegan = s.lastEventBegan := rfl
@[simp] theorem clearResidues_sources (s : State) : (clearResidues s).sources = s.sources := rfl
@[simp] theorem clearResidues_images (s : State) : (clearResidues s).images = s.images := rfl
@[simp] theorem clearResidues_imageMem (s : State) : (clearResidues s).imageMem = s.imageMem := rfl
@[simp] theorem clearResidues_creation (s : State) : (clearResidues s).creation = s.creation := rfl
@[simp] theorem clearResidues_screens (s : State) : (clearResidues s).screens = s.screens := rfl
@[simp] theorem clearResidues_pendingLists (s : State) : (clearResidues s).pendingLists = s.pendingLists := rfl
@[simp] theorem clearResidues_activeLists (s : State) : (clearResidues s).activeLists = s.activeLists := rfl
@[simp] theorem clearResidues_swapPending (s : State) : (clearResidues s).swapPending = s.swapPending := rfl
@[simp] theorem clearResidues_presets (s : State) : (clearResidues s).presets = s.presets := rfl
@[simp] theorem clearResidues_fences (s : State) : (clearResidues s).fences = s.fences := rfl
@[simp] theorem clearResidues_layout (s : State) : (clearResidues s).layout = s.layout := rfl
@[simp] theorem clearResidues_keyboard (s : State) : (clearResidues s).keyboard = s.keyboard := rfl
@[simp] theorem clearResidues_lampMessage (s : State) : (clearResidues s).lampMessage = s.lampMessage := rfl
@[simp] theorem clearResidues_lampSent (s : State) : (clearResidues s).lampSent = s.lampSent := rfl
@[simp] theorem clearResidues_node (s : State) : (clearResidues s).node = s.node := rfl
@[simp] theorem clearResidues_responses (s : State) : (clearResidues s).responses = s.responses := rfl
@[simp] theorem clearResidues_controller (s : State) : (clearResidues s).controller = s.controller := rfl
@[simp] theorem clearResidues_resetPending (s : State) : (clearResidues s).resetPending = s.resetPending := rfl
@[simp] theorem clearResidues_events (s : State) : (clearResidues s).events = s.events := rfl
@[simp] theorem clearResidues_eventPending (s : State) : (clearResidues s).eventPending = s.eventPending := rfl
@[simp] theorem clearResidues_counters (s : State) : (clearResidues s).counters = s.counters := rfl
@[simp] theorem clearResidues_cause (s : State) : (clearResidues s).cause = s.cause := rfl
@[simp] theorem clearResidues_resetLine (s : State) : (clearResidues s).resetLine = s.resetLine := rfl
@[simp] theorem clearResidues_now (s : State) : (clearResidues s).now = s.now := rfl
@[simp] theorem clearResidues_freeCount (s : State) : (clearResidues s).freeCount = s.freeCount := rfl
@[simp] theorem clearResidues_pending (s : State) : (clearResidues s).pending = s.pending := rfl

/-! ### setLock -/

@[simp] theorem setLock_portA (v : Bool) (s : State) : (setLock v s).portA = s.portA := rfl
@[simp] theorem setLock_portB (v : Bool) (s : State) : (setLock v s).portB = s.portB := rfl
@[simp] theorem setLock_forwardSet (v : Bool) (s : State) : (setLock v s).forwardSet = s.forwardSet := rfl
@[simp] theorem setLock_portBQueue (v : Bool) (s : State) : (setLock v s).portBQueue = s.portBQueue := rfl
@[simp] theorem setLock_uplinkQueue (v : Bool) (s : State) : (setLock v s).uplinkQueue = s.uplinkQueue := rfl
@[simp] theorem setLock_hidQueue (v : Bool) (s : State) : (setLock v s).hidQueue = s.hidQueue := rfl
@[simp] theorem setLock_lastServed (v : Bool) (s : State) : (setLock v s).lastServed = s.lastServed := rfl
@[simp] theorem setLock_lastEventBegan (v : Bool) (s : State) : (setLock v s).lastEventBegan = s.lastEventBegan := rfl
@[simp] theorem setLock_sources (v : Bool) (s : State) : (setLock v s).sources = s.sources := rfl
@[simp] theorem setLock_images (v : Bool) (s : State) : (setLock v s).images = s.images := rfl
@[simp] theorem setLock_imageMem (v : Bool) (s : State) : (setLock v s).imageMem = s.imageMem := rfl
@[simp] theorem setLock_creation (v : Bool) (s : State) : (setLock v s).creation = s.creation := rfl
@[simp] theorem setLock_screens (v : Bool) (s : State) : (setLock v s).screens = s.screens := rfl
@[simp] theorem setLock_pendingLists (v : Bool) (s : State) : (setLock v s).pendingLists = s.pendingLists := rfl
@[simp] theorem setLock_activeLists (v : Bool) (s : State) : (setLock v s).activeLists = s.activeLists := rfl
@[simp] theorem setLock_swapPending (v : Bool) (s : State) : (setLock v s).swapPending = s.swapPending := rfl
@[simp] theorem setLock_presets (v : Bool) (s : State) : (setLock v s).presets = s.presets := rfl
@[simp] theorem setLock_fences (v : Bool) (s : State) : (setLock v s).fences = s.fences := rfl
@[simp] theorem setLock_pointer (v : Bool) (s : State) : (setLock v s).pointer = s.pointer := rfl
@[simp] theorem setLock_layout (v : Bool) (s : State) : (setLock v s).layout = s.layout := rfl
@[simp] theorem setLock_lampMessage (v : Bool) (s : State) : (setLock v s).lampMessage = s.lampMessage := rfl
@[simp] theorem setLock_lampSent (v : Bool) (s : State) : (setLock v s).lampSent = s.lampSent := rfl
@[simp] theorem setLock_node (v : Bool) (s : State) : (setLock v s).node = s.node := rfl
@[simp] theorem setLock_responses (v : Bool) (s : State) : (setLock v s).responses = s.responses := rfl
@[simp] theorem setLock_controller (v : Bool) (s : State) : (setLock v s).controller = s.controller := rfl
@[simp] theorem setLock_resetPending (v : Bool) (s : State) : (setLock v s).resetPending = s.resetPending := rfl
@[simp] theorem setLock_events (v : Bool) (s : State) : (setLock v s).events = s.events := rfl
@[simp] theorem setLock_eventPending (v : Bool) (s : State) : (setLock v s).eventPending = s.eventPending := rfl
@[simp] theorem setLock_counters (v : Bool) (s : State) : (setLock v s).counters = s.counters := rfl
@[simp] theorem setLock_cause (v : Bool) (s : State) : (setLock v s).cause = s.cause := rfl
@[simp] theorem setLock_resetLine (v : Bool) (s : State) : (setLock v s).resetLine = s.resetLine := rfl
@[simp] theorem setLock_now (v : Bool) (s : State) : (setLock v s).now = s.now := rfl
@[simp] theorem setLock_freeCount (v : Bool) (s : State) : (setLock v s).freeCount = s.freeCount := rfl
@[simp] theorem setLock_pending (v : Bool) (s : State) : (setLock v s).pending = s.pending := rfl

/-! ### modKeyboard -/

@[simp] theorem modKeyboard_portA (f : Keyboard → Keyboard) (s : State) : (modKeyboard f s).portA = s.portA := rfl
@[simp] theorem modKeyboard_portB (f : Keyboard → Keyboard) (s : State) : (modKeyboard f s).portB = s.portB := rfl
@[simp] theorem modKeyboard_forwardSet (f : Keyboard → Keyboard) (s : State) : (modKeyboard f s).forwardSet = s.forwardSet := rfl
@[simp] theorem modKeyboard_portBQueue (f : Keyboard → Keyboard) (s : State) : (modKeyboard f s).portBQueue = s.portBQueue := rfl
@[simp] theorem modKeyboard_uplinkQueue (f : Keyboard → Keyboard) (s : State) : (modKeyboard f s).uplinkQueue = s.uplinkQueue := rfl
@[simp] theorem modKeyboard_hidQueue (f : Keyboard → Keyboard) (s : State) : (modKeyboard f s).hidQueue = s.hidQueue := rfl
@[simp] theorem modKeyboard_lastServed (f : Keyboard → Keyboard) (s : State) : (modKeyboard f s).lastServed = s.lastServed := rfl
@[simp] theorem modKeyboard_lastEventBegan (f : Keyboard → Keyboard) (s : State) : (modKeyboard f s).lastEventBegan = s.lastEventBegan := rfl
@[simp] theorem modKeyboard_sources (f : Keyboard → Keyboard) (s : State) : (modKeyboard f s).sources = s.sources := rfl
@[simp] theorem modKeyboard_images (f : Keyboard → Keyboard) (s : State) : (modKeyboard f s).images = s.images := rfl
@[simp] theorem modKeyboard_imageMem (f : Keyboard → Keyboard) (s : State) : (modKeyboard f s).imageMem = s.imageMem := rfl
@[simp] theorem modKeyboard_creation (f : Keyboard → Keyboard) (s : State) : (modKeyboard f s).creation = s.creation := rfl
@[simp] theorem modKeyboard_screens (f : Keyboard → Keyboard) (s : State) : (modKeyboard f s).screens = s.screens := rfl
@[simp] theorem modKeyboard_pendingLists (f : Keyboard → Keyboard) (s : State) : (modKeyboard f s).pendingLists = s.pendingLists := rfl
@[simp] theorem modKeyboard_activeLists (f : Keyboard → Keyboard) (s : State) : (modKeyboard f s).activeLists = s.activeLists := rfl
@[simp] theorem modKeyboard_swapPending (f : Keyboard → Keyboard) (s : State) : (modKeyboard f s).swapPending = s.swapPending := rfl
@[simp] theorem modKeyboard_presets (f : Keyboard → Keyboard) (s : State) : (modKeyboard f s).presets = s.presets := rfl
@[simp] theorem modKeyboard_fences (f : Keyboard → Keyboard) (s : State) : (modKeyboard f s).fences = s.fences := rfl
@[simp] theorem modKeyboard_pointer (f : Keyboard → Keyboard) (s : State) : (modKeyboard f s).pointer = s.pointer := rfl
@[simp] theorem modKeyboard_layout (f : Keyboard → Keyboard) (s : State) : (modKeyboard f s).layout = s.layout := rfl
@[simp] theorem modKeyboard_lampMessage (f : Keyboard → Keyboard) (s : State) : (modKeyboard f s).lampMessage = s.lampMessage := rfl
@[simp] theorem modKeyboard_lampSent (f : Keyboard → Keyboard) (s : State) : (modKeyboard f s).lampSent = s.lampSent := rfl
@[simp] theorem modKeyboard_node (f : Keyboard → Keyboard) (s : State) : (modKeyboard f s).node = s.node := rfl
@[simp] theorem modKeyboard_responses (f : Keyboard → Keyboard) (s : State) : (modKeyboard f s).responses = s.responses := rfl
@[simp] theorem modKeyboard_controller (f : Keyboard → Keyboard) (s : State) : (modKeyboard f s).controller = s.controller := rfl
@[simp] theorem modKeyboard_resetPending (f : Keyboard → Keyboard) (s : State) : (modKeyboard f s).resetPending = s.resetPending := rfl
@[simp] theorem modKeyboard_events (f : Keyboard → Keyboard) (s : State) : (modKeyboard f s).events = s.events := rfl
@[simp] theorem modKeyboard_eventPending (f : Keyboard → Keyboard) (s : State) : (modKeyboard f s).eventPending = s.eventPending := rfl
@[simp] theorem modKeyboard_counters (f : Keyboard → Keyboard) (s : State) : (modKeyboard f s).counters = s.counters := rfl
@[simp] theorem modKeyboard_cause (f : Keyboard → Keyboard) (s : State) : (modKeyboard f s).cause = s.cause := rfl
@[simp] theorem modKeyboard_resetLine (f : Keyboard → Keyboard) (s : State) : (modKeyboard f s).resetLine = s.resetLine := rfl
@[simp] theorem modKeyboard_now (f : Keyboard → Keyboard) (s : State) : (modKeyboard f s).now = s.now := rfl
@[simp] theorem modKeyboard_freeCount (f : Keyboard → Keyboard) (s : State) : (modKeyboard f s).freeCount = s.freeCount := rfl
@[simp] theorem modKeyboard_pending (f : Keyboard → Keyboard) (s : State) : (modKeyboard f s).pending = s.pending := rfl

/-! ### setSpeed -/

@[simp] theorem setSpeed_portA (n : Nat) (s : State) : (setSpeed n s).portA = s.portA := rfl
@[simp] theorem setSpeed_portB (n : Nat) (s : State) : (setSpeed n s).portB = s.portB := rfl
@[simp] theorem setSpeed_forwardSet (n : Nat) (s : State) : (setSpeed n s).forwardSet = s.forwardSet := rfl
@[simp] theorem setSpeed_portBQueue (n : Nat) (s : State) : (setSpeed n s).portBQueue = s.portBQueue := rfl
@[simp] theorem setSpeed_uplinkQueue (n : Nat) (s : State) : (setSpeed n s).uplinkQueue = s.uplinkQueue := rfl
@[simp] theorem setSpeed_hidQueue (n : Nat) (s : State) : (setSpeed n s).hidQueue = s.hidQueue := rfl
@[simp] theorem setSpeed_lastServed (n : Nat) (s : State) : (setSpeed n s).lastServed = s.lastServed := rfl
@[simp] theorem setSpeed_lastEventBegan (n : Nat) (s : State) : (setSpeed n s).lastEventBegan = s.lastEventBegan := rfl
@[simp] theorem setSpeed_sources (n : Nat) (s : State) : (setSpeed n s).sources = s.sources := rfl
@[simp] theorem setSpeed_images (n : Nat) (s : State) : (setSpeed n s).images = s.images := rfl
@[simp] theorem setSpeed_imageMem (n : Nat) (s : State) : (setSpeed n s).imageMem = s.imageMem := rfl
@[simp] theorem setSpeed_creation (n : Nat) (s : State) : (setSpeed n s).creation = s.creation := rfl
@[simp] theorem setSpeed_screens (n : Nat) (s : State) : (setSpeed n s).screens = s.screens := rfl
@[simp] theorem setSpeed_pendingLists (n : Nat) (s : State) : (setSpeed n s).pendingLists = s.pendingLists := rfl
@[simp] theorem setSpeed_activeLists (n : Nat) (s : State) : (setSpeed n s).activeLists = s.activeLists := rfl
@[simp] theorem setSpeed_swapPending (n : Nat) (s : State) : (setSpeed n s).swapPending = s.swapPending := rfl
@[simp] theorem setSpeed_presets (n : Nat) (s : State) : (setSpeed n s).presets = s.presets := rfl
@[simp] theorem setSpeed_fences (n : Nat) (s : State) : (setSpeed n s).fences = s.fences := rfl
@[simp] theorem setSpeed_pointer (n : Nat) (s : State) : (setSpeed n s).pointer = s.pointer := rfl
@[simp] theorem setSpeed_layout (n : Nat) (s : State) : (setSpeed n s).layout = s.layout := rfl
@[simp] theorem setSpeed_keyboard (n : Nat) (s : State) : (setSpeed n s).keyboard = s.keyboard := rfl
@[simp] theorem setSpeed_lampMessage (n : Nat) (s : State) : (setSpeed n s).lampMessage = s.lampMessage := rfl
@[simp] theorem setSpeed_lampSent (n : Nat) (s : State) : (setSpeed n s).lampSent = s.lampSent := rfl
@[simp] theorem setSpeed_responses (n : Nat) (s : State) : (setSpeed n s).responses = s.responses := rfl
@[simp] theorem setSpeed_controller (n : Nat) (s : State) : (setSpeed n s).controller = s.controller := rfl
@[simp] theorem setSpeed_resetPending (n : Nat) (s : State) : (setSpeed n s).resetPending = s.resetPending := rfl
@[simp] theorem setSpeed_events (n : Nat) (s : State) : (setSpeed n s).events = s.events := rfl
@[simp] theorem setSpeed_eventPending (n : Nat) (s : State) : (setSpeed n s).eventPending = s.eventPending := rfl
@[simp] theorem setSpeed_counters (n : Nat) (s : State) : (setSpeed n s).counters = s.counters := rfl
@[simp] theorem setSpeed_cause (n : Nat) (s : State) : (setSpeed n s).cause = s.cause := rfl
@[simp] theorem setSpeed_resetLine (n : Nat) (s : State) : (setSpeed n s).resetLine = s.resetLine := rfl
@[simp] theorem setSpeed_now (n : Nat) (s : State) : (setSpeed n s).now = s.now := rfl
@[simp] theorem setSpeed_freeCount (n : Nat) (s : State) : (setSpeed n s).freeCount = s.freeCount := rfl
@[simp] theorem setSpeed_pending (n : Nat) (s : State) : (setSpeed n s).pending = s.pending := rfl

/-! ### putInFlight -/

@[simp] theorem putInFlight_forwardSet (p : Port) (c : Cell) (k : TxClass) (s : State) : (putInFlight p c k s).forwardSet = s.forwardSet := by simp [putInFlight]
@[simp] theorem putInFlight_portBQueue (p : Port) (c : Cell) (k : TxClass) (s : State) : (putInFlight p c k s).portBQueue = s.portBQueue := by simp [putInFlight]
@[simp] theorem putInFlight_uplinkQueue (p : Port) (c : Cell) (k : TxClass) (s : State) : (putInFlight p c k s).uplinkQueue = s.uplinkQueue := by simp [putInFlight]
@[simp] theorem putInFlight_hidQueue (p : Port) (c : Cell) (k : TxClass) (s : State) : (putInFlight p c k s).hidQueue = s.hidQueue := by simp [putInFlight]
@[simp] theorem putInFlight_lastServed (p : Port) (c : Cell) (k : TxClass) (s : State) : (putInFlight p c k s).lastServed = s.lastServed := by simp [putInFlight]
@[simp] theorem putInFlight_lastEventBegan (p : Port) (c : Cell) (k : TxClass) (s : State) : (putInFlight p c k s).lastEventBegan = s.lastEventBegan := by simp [putInFlight]
@[simp] theorem putInFlight_sources (p : Port) (c : Cell) (k : TxClass) (s : State) : (putInFlight p c k s).sources = s.sources := by simp [putInFlight]
@[simp] theorem putInFlight_images (p : Port) (c : Cell) (k : TxClass) (s : State) : (putInFlight p c k s).images = s.images := by simp [putInFlight]
@[simp] theorem putInFlight_imageMem (p : Port) (c : Cell) (k : TxClass) (s : State) : (putInFlight p c k s).imageMem = s.imageMem := by simp [putInFlight]
@[simp] theorem putInFlight_creation (p : Port) (c : Cell) (k : TxClass) (s : State) : (putInFlight p c k s).creation = s.creation := by simp [putInFlight]
@[simp] theorem putInFlight_screens (p : Port) (c : Cell) (k : TxClass) (s : State) : (putInFlight p c k s).screens = s.screens := by simp [putInFlight]
@[simp] theorem putInFlight_pendingLists (p : Port) (c : Cell) (k : TxClass) (s : State) : (putInFlight p c k s).pendingLists = s.pendingLists := by simp [putInFlight]
@[simp] theorem putInFlight_activeLists (p : Port) (c : Cell) (k : TxClass) (s : State) : (putInFlight p c k s).activeLists = s.activeLists := by simp [putInFlight]
@[simp] theorem putInFlight_swapPending (p : Port) (c : Cell) (k : TxClass) (s : State) : (putInFlight p c k s).swapPending = s.swapPending := by simp [putInFlight]
@[simp] theorem putInFlight_presets (p : Port) (c : Cell) (k : TxClass) (s : State) : (putInFlight p c k s).presets = s.presets := by simp [putInFlight]
@[simp] theorem putInFlight_fences (p : Port) (c : Cell) (k : TxClass) (s : State) : (putInFlight p c k s).fences = s.fences := by simp [putInFlight]
@[simp] theorem putInFlight_pointer (p : Port) (c : Cell) (k : TxClass) (s : State) : (putInFlight p c k s).pointer = s.pointer := by simp [putInFlight]
@[simp] theorem putInFlight_layout (p : Port) (c : Cell) (k : TxClass) (s : State) : (putInFlight p c k s).layout = s.layout := by simp [putInFlight]
@[simp] theorem putInFlight_keyboard (p : Port) (c : Cell) (k : TxClass) (s : State) : (putInFlight p c k s).keyboard = s.keyboard := by simp [putInFlight]
@[simp] theorem putInFlight_lampMessage (p : Port) (c : Cell) (k : TxClass) (s : State) : (putInFlight p c k s).lampMessage = s.lampMessage := by simp [putInFlight]
@[simp] theorem putInFlight_lampSent (p : Port) (c : Cell) (k : TxClass) (s : State) : (putInFlight p c k s).lampSent = s.lampSent := by simp [putInFlight]
@[simp] theorem putInFlight_node (p : Port) (c : Cell) (k : TxClass) (s : State) : (putInFlight p c k s).node = s.node := by simp [putInFlight]
@[simp] theorem putInFlight_responses (p : Port) (c : Cell) (k : TxClass) (s : State) : (putInFlight p c k s).responses = s.responses := by simp [putInFlight]
@[simp] theorem putInFlight_controller (p : Port) (c : Cell) (k : TxClass) (s : State) : (putInFlight p c k s).controller = s.controller := by simp [putInFlight]
@[simp] theorem putInFlight_resetPending (p : Port) (c : Cell) (k : TxClass) (s : State) : (putInFlight p c k s).resetPending = s.resetPending := by simp [putInFlight]
@[simp] theorem putInFlight_events (p : Port) (c : Cell) (k : TxClass) (s : State) : (putInFlight p c k s).events = s.events := by simp [putInFlight]
@[simp] theorem putInFlight_eventPending (p : Port) (c : Cell) (k : TxClass) (s : State) : (putInFlight p c k s).eventPending = s.eventPending := by simp [putInFlight]
@[simp] theorem putInFlight_counters (p : Port) (c : Cell) (k : TxClass) (s : State) : (putInFlight p c k s).counters = s.counters := by simp [putInFlight]
@[simp] theorem putInFlight_cause (p : Port) (c : Cell) (k : TxClass) (s : State) : (putInFlight p c k s).cause = s.cause := by simp [putInFlight]
@[simp] theorem putInFlight_resetLine (p : Port) (c : Cell) (k : TxClass) (s : State) : (putInFlight p c k s).resetLine = s.resetLine := by simp [putInFlight]
@[simp] theorem putInFlight_now (p : Port) (c : Cell) (k : TxClass) (s : State) : (putInFlight p c k s).now = s.now := by simp [putInFlight]
@[simp] theorem putInFlight_freeCount (p : Port) (c : Cell) (k : TxClass) (s : State) : (putInFlight p c k s).freeCount = s.freeCount := by simp [putInFlight]
@[simp] theorem putInFlight_pending (p : Port) (c : Cell) (k : TxClass) (s : State) : (putInFlight p c k s).pending = s.pending := by simp [putInFlight]

/-! ### Reading back -/

theorem get_set_self {α : Type} {n : Nat} (v : Vector α n) (i : Fin n) (x : α) : (v.set i x i.isLt).get i = x :=
  show (v.set i x i.isLt)[i.val] = x from by simp

theorem get_set_ne {α : Type} {n : Nat} (v : Vector α n) {i j : Fin n} (h : i ≠ j) (x : α) :
    (v.set i x i.isLt).get j = v.get j :=
  show (v.set i x i.isLt)[j.val] = v[j.val] from Vector.getElem_set_ne i.isLt j.isLt (Fin.val_ne_of_ne h)

theorem set_get_self {α : Type} {n : Nat} (v : Vector α n) (i : Fin n) : v.set i (v.get i) i.isLt = v :=
  Vector.set_getElem_self i.isLt

/-- A counter after an increase (R175). -/
theorem counter_bumpBy (c : Counter) (n : Nat) (s : State) :
    (bumpBy c n s).counter c = min counterTop (s.counter c + n) := get_set_self _ _ _

/-- The counters in the order of R175. -/
def allCounters : List Counter :=
  [.aRxCells, .aRxBadCode, .aRxBadFrame, .aRxBadLength, .aRxBadCrc, .aRxBadAddress, .aRxBadKind, .aRxBadSize,
    .aRxWrongDir, .aRxCut, .aLockLosses, .aTxCells, .aTxAborted, .bRxCells, .bRxBadCode, .bRxBadFrame, .bRxBadLength,
    .bRxBadCrc, .bRxBadAddress, .bRxBadKind, .bRxBadSize, .bRxCut, .bLockLosses, .bTxCells, .bTxAborted,
    .fwdUnwanted, .fwdBTxDrop, .fwdUpDrop, .hidKeyMerged, .hidPtrMerged, .hidDrop, .hidPurged, .srcJoined, .srcStale,
    .srcLost, .srcNotLive, .srcBadStatus, .srcBadCursor, .srcHalfOverrun, .srcUnusable, .srcGeometry, .srcAdmitFull,
    .tsTiles, .tsFramesComplete, .tsTorn, .tsResync, .tsLate, .tsBadTile, .tsTileNotAdmitted, .tsEndNotAdmitted,
    .rsRuns, .rsDeferred, .rsRetired, .rsExpired, .rsSent, .rsCeiling, .vcSwaps, .vcSwapsCoalesced, .vcListsRefused,
    .vcFenceBusy, .psReports, .psClamped, .psCrossings, .psCaptures, .psCaptureBroken, .psSwallowed, .ksReports,
    .ksRollover, .ksHotkeys, .ksFocusChanges, .ksFocusHeld, .ksLampSends, .mgRequests, .mgDropped, .mgRefused,
    .mgEventsSent]

theorem allCounters_index (c : Counter) : allCounters.getD c.index.val .aRxCells = c := by cases c <;> rfl

theorem Counter.index_inj {c d : Counter} (h : c.index = d.index) : c = d := by
  rw [← allCounters_index c, h, allCounters_index d]

theorem counter_bumpBy_ne {c d : Counter} (h : c ≠ d) (n : Nat) (s : State) : (bumpBy c n s).counter d = s.counter d :=
  get_set_ne _ (fun e => h (Counter.index_inj e)) _

@[simp] theorem src_setSrc (i : Slot) (v : SourceRecord) (s : State) : (setSrc i v s).src i = v := get_set_self _ _ _

theorem src_setSrc_ne {i j : Slot} (h : i ≠ j) (v : SourceRecord) (s : State) : (setSrc i v s).src j = s.src j :=
  get_set_ne _ h _

@[simp] theorem setSrc_self (i : Slot) (s : State) : setSrc i (s.src i) s = s := by
  unfold setSrc State.src; rw [set_get_self]

@[simp] theorem image_setImage (x : ImageIx) (v : Option Tracking) (s : State) : (setImage x v s).image x = v := get_set_self _ _ _

theorem image_setImage_ne {x y : ImageIx} (h : x ≠ y) (v : Option Tracking) (s : State) : (setImage x v s).image y = s.image y :=
  get_set_ne _ h _

@[simp] theorem setImage_self (x : ImageIx) (s : State) : setImage x (s.image x) s = s := by
  unfold setImage State.image; rw [set_get_self]

@[simp] theorem screen_setScreen (d : Desk) (v : ScreenSettings) (s : State) : (setScreen d v s).screen d = v := get_set_self _ _ _

theorem screen_setScreen_ne {d e : Desk} (h : d ≠ e) (v : ScreenSettings) (s : State) : (setScreen d v s).screen e = s.screen e :=
  get_set_ne _ h _

@[simp] theorem setScreen_self (d : Desk) (s : State) : setScreen d (s.screen d) s = s := by
  unfold setScreen State.screen; rw [set_get_self]

@[simp] theorem active_setActive (d : Desk) (v : List Region) (s : State) : (setActive d v s).active d = v := get_set_self _ _ _

theorem active_setActive_ne {d e : Desk} (h : d ≠ e) (v : List Region) (s : State) : (setActive d v s).active e = s.active e :=
  get_set_ne _ h _

@[simp] theorem setActive_self (d : Desk) (s : State) : setActive d (s.active d) s = s := by
  unfold setActive State.active; rw [set_get_self]

@[simp] theorem pendingList_setPendingList (d : Desk) (v : List Region) (s : State) : (setPendingList d v s).pendingList d = v := get_set_self _ _ _

theorem pendingList_setPendingList_ne {d e : Desk} (h : d ≠ e) (v : List Region) (s : State) : (setPendingList d v s).pendingList e = s.pendingList e :=
  get_set_ne _ h _

@[simp] theorem setPendingList_self (d : Desk) (s : State) : setPendingList d (s.pendingList d) s = s := by
  unfold setPendingList State.pendingList; rw [set_get_self]

@[simp] theorem swapWaits_setSwapWaits (d : Desk) (v : Bool) (s : State) : (setSwapWaits d v s).swapWaits d = v := get_set_self _ _ _

theorem swapWaits_setSwapWaits_ne {d e : Desk} (h : d ≠ e) (v : Bool) (s : State) : (setSwapWaits d v s).swapWaits e = s.swapWaits e :=
  get_set_ne _ h _

@[simp] theorem setSwapWaits_self (d : Desk) (s : State) : setSwapWaits d (s.swapWaits d) s = s := by
  unfold setSwapWaits State.swapWaits; rw [set_get_self]

@[simp] theorem port_setPort (p : Port) (x : PortState) (s : State) : (setPort p x s).port p = x := by cases p <;> rfl

theorem port_setPort_ne {p q : Port} (h : p ≠ q) (x : PortState) (s : State) : (setPort p x s).port q = s.port q := by
  cases p <;> cases q <;> first | rfl | exact absurd rfl h

end Sys2Proof.Machine
end

