-- ==== Sys2Proof/Laws/Frames.lean ====
section
/-!
SUPPORT. What each shared operation leaves alone, said once. Each `off…` below is a state with everything blanked that a family of
operations may change; a lemma `off…_op` says that the operation changes nothing else. A field that the blanking keeps is read off
it with `congrArg`.
-/

namespace Sys2Proof.Machine

/-! ### The counters and the event flags -/

/-- The state less its counters, event flags and EVENT pendency. -/
def offTally (s : State) : State := { s with counters := Vector.replicate 76 0, events := 0, eventPending := false }

@[simp] theorem offTally_bumpBy (c : Counter) (n : Nat) (s : State) : offTally (bumpBy c n s) = offTally s := rfl

@[simp] theorem offTally_bump (c : Counter) (s : State) : offTally (bump c s) = offTally s := rfl

@[simp] theorem offTally_setFlag (f : Flag) (s : State) : offTally (setFlag f s) = offTally s := by
  unfold setFlag; split <;> rfl

/-! ### Steering: the HID queue, the steering record, the focus, and word 1 with the due flags -/

/-- A source record less its desk half and due flag. -/
def SourceRecord.offHalf (x : SourceRecord) : SourceRecord := { x with deskHalf := Vector.replicate 8 0, due := false }

/-- The state less what the steering units change beside a report's own keys and buttons: the HID queue, the steering record, the
focus with its lists, lock and lamps, the desk halves and due flags, and the tallies. -/
def offSteer (s : State) : State :=
  { s with
    pointer := { Steering.reset with buttons := s.pointer.buttons }
    hidQueue := []
    keyboard := { s.keyboard with swallowed := [], forwarded := [], focus := none, lock := false, lamps := 0 }
    counters := Vector.replicate 76 0
    events := 0
    eventPending := false
    sources := s.sources.map SourceRecord.offHalf }

theorem offSteer_of_offTally {s t : State} (h : offTally s = offTally t) : offSteer s = offSteer t := by
  have e : ∀ u : State, offSteer u = offSteer (offTally u) := fun _ => rfl
  rw [e s, e t, h]

@[simp] theorem offSteer_bumpBy (c : Counter) (n : Nat) (s : State) : offSteer (bumpBy c n s) = offSteer s := rfl

@[simp] theorem offSteer_bump (c : Counter) (s : State) : offSteer (bump c s) = offSteer s := rfl

@[simp] theorem offSteer_setFlag (f : Flag) (s : State) : offSteer (setFlag f s) = offSteer s :=
  offSteer_of_offTally (offTally_setFlag f s)

theorem offSteer_setSrc (i : Slot) (x : SourceRecord) (s : State) (h : x.offHalf = (s.src i).offHalf) :
    offSteer (setSrc i x s) = offSteer s := by
  have e : (s.sources.set i x i.isLt).map SourceRecord.offHalf = s.sources.map SourceRecord.offHalf := by
    apply Vector.ext
    intro j hj
    by_cases c : i.val = j
    · subst c; simpa [State.src, Vector.get] using h
    · simp [Vector.getElem_set_ne i.isLt hj c]
  simp only [offSteer, setSrc, e]

@[simp] theorem offSteer_makeDue (i : Slot) (s : State) : offSteer (makeDue i s) = offSteer s := by
  unfold makeDue; split
  · exact offSteer_setSrc _ _ _ rfl
  · rfl

@[simp] theorem offSteer_setHalfFlag (i : Slot) (f : HalfFlag) (v : Bool) (s : State) :
    offSteer (setHalfFlag i f v s) = offSteer s := by
  unfold setHalfFlag; split
  · rfl
  · rw [offSteer_makeDue]; exact offSteer_setSrc _ _ _ rfl

@[simp] theorem offSteer_giveKey (i : Slot) (m : Byte) (l : List Byte) (s : State) :
    offSteer (giveKey i m l s) = offSteer s := by
  unfold giveKey; split <;> rfl

@[simp] theorem offSteer_givePointer (i : Slot) (k : SrcScreen) (ax ay : Nat) (b : BitVec 5) (w : Int) (s : State) :
    offSteer (givePointer i k ax ay b w s) = offSteer s := by
  unfold givePointer
  dsimp only
  cases mergeNewest (.pointer i k ax ay b w) s.hidQueue with
  | some q => rfl
  | none =>
    dsimp only
    split
    · rfl
    · simp

@[simp] theorem offSteer_purgeHid (i : Slot) (s : State) : offSteer (purgeHid i s) = offSteer s := rfl

@[simp] theorem offSteer_setLock (v : Bool) (s : State) : offSteer (setLock v s) = offSteer s := rfl

@[simp] theorem offSteer_releaseOld (s : State) : offSteer (releaseOld s) = offSteer s := by
  unfold releaseOld; split
  · rfl
  · split <;> simp

@[simp] theorem offSteer_withholdKeys (s : State) : offSteer (withholdKeys s) = offSteer s := rfl

@[simp] theorem offSteer_carryOver (b : Option Slot) (s : State) : offSteer (carryOver b s) = offSteer s := by
  cases b
  · rfl
  · exact offSteer_giveKey _ _ _ _

@[simp] theorem offSteer_setFocusFlag (v : Bool) (b : Option Slot) (s : State) :
    offSteer (setFocusFlag v b s) = offSteer s := by
  cases b
  · rfl
  · exact offSteer_setHalfFlag _ _ _ _

@[simp] theorem offSteer_reportFocus (a b : Option Slot) (s : State) : offSteer (reportFocus a b s) = offSteer s := by
  have e (u : State) (l : BitVec 5) : offSteer { u with keyboard := { u.keyboard with lamps := l } } = offSteer u := rfl
  simp only [reportFocus, e, offSteer_setFocusFlag, offSteer_bump, offSteer_setFlag]

@[simp] theorem offSteer_focusChange (b : Option Slot) (s : State) : offSteer (focusChange b s) = offSteer s := by
  simp [focusChange]

@[simp] theorem offSteer_endFocus (i : Slot) (s : State) : offSteer (endFocus i s) = offSteer s := by
  unfold endFocus; split <;> simp

@[simp] theorem offSteer_focusRequest (i : Slot) (s : State) : offSteer (focusRequest i s) = offSteer s := by
  unfold focusRequest; split <;> simp

@[simp] theorem offSteer_clampToRegion (d : Desk) (r : Region) (s : State) : offSteer (clampToRegion d r s) = offSteer s := rfl

@[simp] theorem offSteer_clampToScreen (d : Desk) (s : State) : offSteer (clampToScreen d s) = offSteer s := rfl

@[simp] theorem offSteer_clearResidues (s : State) : offSteer (clearResidues s) = offSteer s := rfl

@[simp] theorem offSteer_breakCapture (c : Capture) (s : State) : offSteer (breakCapture c s) = offSteer s := by
  have e (u : State) : offSteer
      { u with pointer := { u.pointer with swallowed := u.pointer.swallowed ||| u.pointer.buttons, capture := none } } =
        offSteer u := rfl
  simp only [breakCapture, offSteer_bump, offSteer_clearResidues, e]
  split <;> simp

@[simp] theorem offSteer_breakAnyCapture (s : State) : offSteer (breakAnyCapture s) = offSteer s := by
  unfold breakAnyCapture; split <;> simp

@[simp] theorem offSteer_testCapture (s : State) : offSteer (testCapture s) = offSteer s := by
  unfold testCapture; split
  · rfl
  · split <;> simp

@[simp] theorem offSteer_retarget (s : State) : offSteer (retarget s) = offSteer s := rfl

/-- A fold of operations that keep a blanking keeps it. -/
theorem off_foldl {α : Type} {β : Type} (off : State → β) (f : State → α → State) (h : ∀ s a, off (f s a) = off s)
    (l : List α) (s : State) : off (l.foldl f s) = off s := by
  induction l generalizing s with
  | nil => rfl
  | cons a t ih => rw [List.foldl_cons, ih, h]

/-- A repeated operation that keeps a blanking keeps it. -/
theorem off_times {β : Type} (off : State → β) (f : State → State) (h : ∀ s, off (f s) = off s) (n : Nat) (s : State) :
    off (times f n s) = off s := by
  induction n generalizing s with
  | zero => rfl
  | succ n ih => rw [times, ih, h]

@[simp] theorem offSteer_setSteeringFlags (s : State) : offSteer (setSteeringFlags s) = offSteer s := by
  unfold setSteeringFlags
  exact off_foldl _ _ (fun _ _ => by simp) _ _

@[simp] theorem offSteer_askFocus (s : State) : offSteer (askFocus s) = offSteer s := by
  unfold askFocus; split
  · rfl
  · split <;> simp

/-- Re-evaluation (R136) reaches nothing beyond the steering units' state, word 1 and the due flags. -/
@[simp] theorem offSteer_reevaluate (s : State) : offSteer (reevaluate s) = offSteer s := by simp [reevaluate]

@[simp] theorem offSteer_placePointer (s : State) : offSteer (placePointer s) = offSteer s := by
  unfold placePointer
  rw [offSteer_clearResidues]
  cases s.lowestEnabled <;> rfl

@[simp] theorem offSteer_placeAndReevaluate (s : State) : offSteer (placeAndReevaluate s) = offSteer s := by
  simp [placeAndReevaluate]

@[simp] theorem offSteer_leaveDisabled (s : State) : offSteer (leaveDisabled s) = offSteer s := by simp [leaveDisabled]

@[simp] theorem offSteer_fitPointer (d : Desk) (s : State) : offSteer (fitPointer d s) = offSteer s := by
  unfold fitPointer; split <;> simp

@[simp] theorem offSteer_settlePointer (s : State) : offSteer (settlePointer s) = offSteer s := by
  unfold settlePointer; split
  · split <;> simp
  · split <;> simp

@[simp] theorem offSteer_reportChange (i : Slot) (s : State) : offSteer (reportChange i s) = offSteer s := by
  unfold reportChange; split <;> simp

@[simp] theorem offSteer_recomputeViewing (s : State) : offSteer (recomputeViewing s) = offSteer s := by
  unfold recomputeViewing
  exact off_foldl _ _ (fun _ _ => by simp) _ _

/-! ### Views: the lists, swaps, fences and the response queue -/

/-- The state less what a swap may change (R117): beside the steering units' state, the lists, the swap-pending flags, the fences and
the response queue. -/
def offView (s : State) : State :=
  { offSteer s with
    activeLists := Vector.replicate 4 []
    pendingLists := Vector.replicate 4 []
    swapPending := Vector.replicate 4 false
    fences := []
    responses := [] }

theorem offView_of_offSteer {s t : State} (h : offSteer s = offSteer t) : offView s = offView t := by
  unfold offView; rw [h]

@[simp] theorem offView_setFlag (f : Flag) (s : State) : offView (setFlag f s) = offView s :=
  offView_of_offSteer (offSteer_setFlag f s)

@[simp] theorem offView_bump (c : Counter) (s : State) : offView (bump c s) = offView s := rfl

@[simp] theorem offView_reevaluate (s : State) : offView (reevaluate s) = offView s :=
  offView_of_offSteer (offSteer_reevaluate s)

@[simp] theorem offView_recomputeViewing (s : State) : offView (recomputeViewing s) = offView s :=
  offView_of_offSteer (offSteer_recomputeViewing s)

@[simp] theorem offView_pushResponse (r : Response) (s : State) : offView (pushResponse r s) = offView s := by
  unfold pushResponse; split <;> rfl

@[simp] theorem offView_respond (r : Request) (st : Status) (l : List Byte) (s : State) :
    offView (respond r st l s) = offView s := offView_pushResponse _ _

@[simp] theorem offView_setActive (d : Desk) (l : List Region) (s : State) : offView (setActive d l s) = offView s := rfl

@[simp] theorem offView_setPendingList (d : Desk) (l : List Region) (s : State) :
    offView (setPendingList d l s) = offView s := rfl

@[simp] theorem offView_setSwapWaits (d : Desk) (b : Bool) (s : State) : offView (setSwapWaits d b s) = offView s := rfl

@[simp] theorem offView_answerOldestDue (s : State) : offView (answerOldestDue s) = offView s := by
  unfold answerOldestDue; split
  · rfl
  · split
    · rw [offView_pushResponse]; rfl
    · rfl

@[simp] theorem offView_answerDueFences (s : State) : offView (answerDueFences s) = offView s :=
  off_times _ _ offView_answerOldestDue _ _

@[simp] theorem offView_releaseScreen (d : Desk) (s : State) : offView (releaseScreen d s) = offView s := rfl

@[simp] theorem offView_swapIn (d : Desk) (s : State) : offView (swapIn d s) = offView s := by simp [swapIn]

@[simp] theorem offView_swapNotice (s : State) : offView (swapNotice s) = offView s := by simp [swapNotice]

@[simp] theorem offView_reevaluateOn (d : Desk) (s : State) : offView (reevaluateOn d s) = offView s := by
  unfold reevaluateOn; split <;> simp

/-- A swap that takes effect (R117) reaches nothing beyond `offView`. -/
@[simp] theorem offView_swapEffect (b : Bool) (d : Desk) (s : State) : offView (swapEffect b d s) = offView s := by
  cases b <;> simp [swapEffect]

@[simp] theorem offView_requestSwapOn (b : Bool) (d : Desk) (s : State) : offView (requestSwapOn b d s) = offView s := by
  unfold requestSwapOn; split
  · split <;> simp
  · simp

@[simp] theorem offView_requestSwap (b : Bool) (m : BitVec 4) (s : State) : offView (requestSwap b m s) = offView s := by
  unfold requestSwap
  refine off_foldl _ _ (fun _ _ => ?_) _ _
  split <;> simp

@[simp] theorem offView_takeSwap (b : Bool) (d : Desk) (s : State) : offView (takeSwap b d s) = offView s := by
  unfold takeSwap; split <;> simp

@[simp] theorem offView_loadPreset (b : Bool) (l : Vector (List Region) 4) (s : State) :
    offView (loadPreset b l s) = offView s := by
  unfold loadPreset; rw [offView_requestSwap]; rfl

/-! ### Sources: the records, the image slots and their lists -/

/-- The state less what the Source Manager may change with a cell, a timer or a subscription (R39 to R55): beside the steering units'
state, the source records, the image slots' records and the creation counter. -/
def offSource (s : State) : State :=
  { offSteer s with
    sources := Vector.replicate 8 (SourceRecord.reset 0)
    images := Vector.replicate 16 none
    creation := 0 }

theorem offSource_of_offSteer {s t : State} (h : offSteer s = offSteer t) : offSource s = offSource t := by
  unfold offSource; rw [h]

@[simp] theorem offSource_bumpBy (c : Counter) (n : Nat) (s : State) : offSource (bumpBy c n s) = offSource s := rfl

@[simp] theorem offSource_bump (c : Counter) (s : State) : offSource (bump c s) = offSource s := rfl

@[simp] theorem offSource_setFlag (f : Flag) (s : State) : offSource (setFlag f s) = offSource s :=
  offSource_of_offSteer (offSteer_setFlag f s)

@[simp] theorem offSource_reevaluate (s : State) : offSource (reevaluate s) = offSource s :=
  offSource_of_offSteer (offSteer_reevaluate s)

@[simp] theorem offSource_reportChange (i : Slot) (s : State) : offSource (reportChange i s) = offSource s :=
  offSource_of_offSteer (offSteer_reportChange i s)

@[simp] theorem offSource_setSrc (i : Slot) (x : SourceRecord) (s : State) : offSource (setSrc i x s) = offSource s := rfl

@[simp] theorem offSource_setEntry (i : Slot) (k : SrcScreen) (e : Option ScreenEntry) (s : State) :
    offSource (setEntry i k e s) = offSource s := rfl

@[simp] theorem offSource_setImage (x : ImageIx) (t : Option Tracking) (s : State) :
    offSource (setImage x t s) = offSource s := rfl

@[simp] theorem offSource_modTrack (x : ImageIx) (f : Tracking → Tracking) (s : State) :
    offSource (modTrack x f s) = offSource s := rfl

@[simp] theorem offSource_accept (i : Slot) (s : State) : offSource (accept i s) = offSource s := by
  unfold accept; split <;> rfl

@[simp] theorem offSource_takeFor (i : Slot) (f : State → State) (h : ∀ s, offSource (f s) = offSource s) (s : State) :
    offSource (takeFor i f s) = offSource s := by
  unfold takeFor
  simp only
  split <;> simp [h]

@[simp] theorem offSource_storeCursor (i : Slot) (k : CursorCell) (s : State) :
    offSource (storeCursor i k s) = offSource s := by
  unfold storeCursor; split
  · split <;> rfl
  · rfl

@[simp] theorem offSource_freeOf (e : Option ScreenEntry) (s : State) : offSource (freeOf e s) = offSource s := by
  unfold freeOf; split <;> rfl

@[simp] theorem offSource_freshStart (x : ImageIx) (i : Slot) (k : SrcScreen) (w h : Nat) (s : State) :
    offSource (freshStart x i k w h s) = offSource s := rfl

@[simp] theorem offSource_admitFirst (i : Slot) (x : SrcStatusCell) (k : SrcScreen) (s : State) :
    offSource (admitFirst i x k s) = offSource s := by
  unfold admitFirst
  simp only
  split
  · simp
  · split
    · split
      · split <;> simp
      · simp
    · simp

@[simp] theorem offSource_admitSecond (i : Slot) (k : SrcScreen) (s : State) :
    offSource (admitSecond i k s) = offSource s := by
  unfold admitSecond; split
  · rfl
  · split
    · split <;> simp
    · rfl

@[simp] theorem offSource_runAdmission (i : Slot) (x : SrcStatusCell) (s : State) :
    offSource (runAdmission i x s) = offSource s := by
  have h : offSource (allSrcScreens.foldl (fun s k => admitSecond i k s)
      (allSrcScreens.foldl (fun s k => admitFirst i x k s) s)) = offSource s :=
    (off_foldl offSource _ (fun _ _ => offSource_admitSecond _ _ _) _ _).trans
      (off_foldl offSource _ (fun _ _ => offSource_admitFirst _ _ _ _) _ _)
  unfold runAdmission
  simp only
  split <;> simpa using h

@[simp] theorem offSource_join (i : Slot) (s : State) : offSource (join i s) = offSource s := by simp [join]

@[simp] theorem offSource_statusMove (i : Slot) (s : State) : offSource (statusMove i s) = offSource s := by
  unfold statusMove; split <;> simp

@[simp] theorem offSource_storeLamps (i : Slot) (l : BitVec 5) (s : State) : offSource (storeLamps i l s) = offSource s := by
  unfold storeLamps
  simp only
  split <;> rfl

@[simp] theorem offSource_storeHalf (i : Slot) (h : Vector Word16 8) (s : State) :
    offSource (storeHalf i h s) = offSource s := by
  unfold storeHalf
  simp only
  split
  · rfl
  · split <;> rfl

@[simp] theorem offSource_statusContents (i : Slot) (x : SrcStatusCell) (s : State) :
    offSource (statusContents i x s) = offSource s := by simp [statusContents]

@[simp] theorem offSource_takeStatus (i : Slot) (x : SrcStatusCell) (s : State) :
    offSource (takeStatus i x s) = offSource s := by
  unfold takeStatus; split
  · exact offSource_takeFor i _ (offSource_bump .srcBadStatus) s
  · simp only
    split <;> simp

@[simp] theorem offSource_freeImages (i : Slot) (s : State) : offSource (freeImages i s) = offSource s :=
  off_foldl offSource _ (fun _ _ => offSource_freeOf _ _) _ _

@[simp] theorem offSource_breakCaptureOf (i : Slot) (s : State) : offSource (breakCaptureOf i s) = offSource s := by
  unfold breakCaptureOf; split
  · rfl
  · split
    · exact offSource_of_offSteer (offSteer_breakCapture _ _)
    · rfl

@[simp] theorem offSource_endFocus (i : Slot) (s : State) : offSource (endFocus i s) = offSource s :=
  offSource_of_offSteer (offSteer_endFocus i s)

@[simp] theorem offSource_purgeHid (i : Slot) (s : State) : offSource (purgeHid i s) = offSource s := rfl

/-- The order of work of a loss or teardown (R53) reaches nothing beyond `offSource`. -/
@[simp] theorem offSource_giveUp (i : Slot) (s : State) : offSource (giveUp i s) = offSource s := by
  simp [giveUp, clearScreens, dropCursor, silence]

@[simp] theorem offSource_loseSource (i : Slot) (s : State) : offSource (loseSource i s) = offSource s := by
  unfold loseSource
  simp only
  split <;> simp

@[simp] theorem offSource_tearDown (i : Slot) (a : Option Addr) (s : State) : offSource (tearDown i a s) = offSource s := by
  unfold tearDown
  simp only
  split <;> simp

@[simp] theorem offSource_subscribe (i : Slot) (a : Option Addr) (s : State) : offSource (subscribe i a s) = offSource s := by
  unfold subscribe
  simp only
  split
  · rfl
  · split <;> simp

/-! ### Tiles -/

/-- The state less what the Tile Store and the Refresh Scanner may change with a cell (R57 to R86): the tracking records, the image
memory, the creation counter and the tallies. -/
def offStore (s : State) : State :=
  { offTally s with images := Vector.replicate 16 none, imageMem := [], creation := 0 }

theorem offStore_of_offTally {s t : State} (h : offTally s = offTally t) : offStore s = offStore t := by
  unfold offStore; rw [h]

@[simp] theorem offStore_bumpBy (c : Counter) (n : Nat) (s : State) : offStore (bumpBy c n s) = offStore s := rfl

@[simp] theorem offStore_bump (c : Counter) (s : State) : offStore (bump c s) = offStore s := rfl

@[simp] theorem offStore_setFlag (f : Flag) (s : State) : offStore (setFlag f s) = offStore s :=
  offStore_of_offTally (offTally_setFlag f s)

@[simp] theorem offStore_modTrack (x : ImageIx) (f : Tracking → Tracking) (s : State) :
    offStore (modTrack x f s) = offStore s := rfl

@[simp] theorem offStore_replaceByFull (x : ImageIx) (r : Option Frame) (n : Nat) (s : State) :
    offStore (replaceByFull x r n s) = offStore s := rfl

@[simp] theorem offStore_tornFrame (s : State) : offStore (tornFrame s) = offStore s := by simp [tornFrame]

@[simp] theorem offStore_tornRepair (x : ImageIx) (s : State) : offStore (tornRepair x s) = offStore s := by
  unfold tornRepair; split
  · rfl
  · split
    · rfl
    · split
      · rfl
      · split <;> simp

@[simp] theorem offStore_expireEntries (x : ImageIx) (s : State) : offStore (expireEntries x s) = offStore s := by
  unfold expireEntries; split
  · rfl
  · split <;> rfl

@[simp] theorem offStore_runScanner (x : ImageIx) (d : Nat) (s : State) : offStore (runScanner x d s) = offStore s := by
  unfold runScanner; split
  · rfl
  · split <;> rfl

@[simp] theorem offStore_advance (x : ImageIx) (d : Nat) (f : Frame) (s : State) : offStore (advance x d f s) = offStore s := by
  unfold advance
  split
  · rfl
  · simp only
    split <;> simp [off_times offStore tornFrame offStore_tornFrame]

@[simp] theorem offStore_resynchronize (x : ImageIx) (f : Frame) (s : State) :
    offStore (resynchronize x f s) = offStore s := by
  unfold resynchronize; split <;> simp

@[simp] theorem offStore_firstPresence (x : ImageIx) (f : Frame) (s : State) :
    offStore (firstPresence x f s) = offStore s := rfl

@[simp] theorem offStore_setProgress (x : ImageIx) (n : Nat) (b : Bool) (s : State) :
    offStore (setProgress x n b s) = offStore s := rfl

@[simp] theorem offStore_writeTile (x : ImageIx) (c : TileCell) (s : State) : offStore (writeTile x c s) = offStore s := by
  unfold writeTile; split
  · rfl
  · split
    · rfl
    · simp only
      split <;> rfl

@[simp] theorem offStore_tileInGrid (x : ImageIx) (t : Tracking) (c : TileCell) (s : State) :
    offStore (tileInGrid x t c s) = offStore s := by
  unfold tileInGrid; split
  · simp
  · split <;> simp

/-- The Tile Store's work for a TILE (R60 to R64) reaches nothing beyond `offStore`. -/
@[simp] theorem offStore_storeTile (i : Slot) (c : TileCell) (s : State) : offStore (storeTile i c s) = offStore s := by
  unfold storeTile; split
  · rfl
  · split <;> simp

@[simp] theorem offStore_judge (x : ImageIx) (b : Bool) (s : State) : offStore (judge x b s) = offStore s := by
  unfold judge; split <;> simp

@[simp] theorem offStore_endFrame (x : ImageIx) (t : Tracking) (c : FrameEndCell) (s : State) :
    offStore (endFrame x t c s) = offStore s := by
  unfold endFrame; split
  · simp
  · split
    · split <;> simp
    · simp
    · simp
    · simp

/-- The Tile Store's work for a FRAME_END (R60, R65) reaches nothing beyond `offStore`. -/
@[simp] theorem offStore_storeFrameEnd (i : Slot) (c : FrameEndCell) (s : State) :
    offStore (storeFrameEnd i c s) = offStore s := by
  unfold storeFrameEnd; split <;> simp

end Sys2Proof.Machine
end

