-- ==== Sys2Proof/Laws/Cells.lean ====
section
/-!
SUPPORT. What the end of a cell and the taking of a request leave alone, by a blanking and then field by field; that a cell event
whose cell arrives, and a request that is executed, run their work on the state named in Safety.lean; and what a transmit side sends.
-/

namespace Sys2Proof.Machine

/-! ### The end of a cell -/

/-- The state less its two ports and its tallies. -/
def offPorts (s : State) : State := { offTally s with portA := PortState.reset, portB := PortState.reset }

theorem offPorts_of_offTally {s t : State} (h : offTally s = offTally t) : offPorts s = offPorts t := by
  unfold offPorts; rw [h]

@[simp] theorem offPorts_bump (c : Counter) (s : State) : offPorts (bump c s) = offPorts s := rfl

@[simp] theorem offPorts_setFlag (f : Flag) (s : State) : offPorts (setFlag f s) = offPorts s :=
  offPorts_of_offTally (offTally_setFlag f s)

@[simp] theorem offPorts_setPort (p : Port) (x : PortState) (s : State) : offPorts (setPort p x s) = offPorts s := by
  cases p <;> rfl

@[simp] theorem offPorts_afterCell (p : Port) (rx : Option RxCell) (s : State) : offPorts (afterCell p rx s) = offPorts s :=
  offPorts_setPort _ _ _

@[simp] theorem offPorts_endWindow (p : Port) (s : State) : offPorts (endWindow p s) = offPorts s := by
  unfold endWindow; dsimp only; split <;> simp only [offPorts_setFlag, offPorts_setPort]

@[simp] theorem offPorts_countCell (p : Port) (b : Bool) (s : State) : offPorts (countCell p b s) = offPorts s := by
  unfold countCell; dsimp only
  by_cases h : windowLength ≤ ((setPort p { s.port p with
      windowCount := (s.port p).windowCount + 1, windowBad := (s.port p).windowBad + (if b then 1 else 0) } s).port p).windowCount
  · rw [if_pos h, offPorts_endWindow, offPorts_setPort]
  · rw [if_neg h, offPorts_setPort]

/-- A valid cell's end reaches only its port and the tallies. -/
@[simp] theorem offPorts_goodCell (p : Port) (s : State) : offPorts (goodCell p s) = offPorts s := by
  unfold goodCell; rw [offPorts_countCell, offPorts_bump, offPorts_afterCell]

/-- A bad cell's end reaches only its port and the tallies. -/
@[simp] theorem offPorts_badCellEnds (p : Port) (k : RxCheck) (rx : Option RxCell) (s : State) :
    offPorts (badCellEnds p k rx s) = offPorts s := by
  unfold badCellEnds; rw [offPorts_countCell, offPorts_bump, offPorts_afterCell]

/-! ### The other port -/

theorem setPort_a_portB (x : PortState) (s : State) : (setPort .a x s).portB = s.portB := rfl

theorem setPort_b_portA (x : PortState) (s : State) : (setPort .b x s).portA = s.portA := rfl

theorem endWindow_portB (s : State) : (endWindow .a s).portB = s.portB := by
  unfold endWindow; dsimp only
  split
  · rw [setFlag_portB, setPort_a_portB]
  · rw [setPort_a_portB]

theorem endWindow_portA (s : State) : (endWindow .b s).portA = s.portA := by
  unfold endWindow; dsimp only
  split
  · rw [setFlag_portA, setPort_b_portA]
  · rw [setPort_b_portA]

/-- R9: the counting of a cell, with the window count it leaves said outright. -/
theorem countCell_eq (p : Port) (b : Bool) (s : State) :
    countCell p b s =
      let u := setPort p { s.port p with
        windowCount := (s.port p).windowCount + 1, windowBad := (s.port p).windowBad + (if b then 1 else 0) } s
      if windowLength ≤ (s.port p).windowCount + 1 then endWindow p u else u := by
  cases p <;> rfl

theorem countCell_portB (b : Bool) (s : State) : (countCell .a b s).portB = s.portB := by
  rw [countCell_eq]; dsimp only
  by_cases h : windowLength ≤ (s.port .a).windowCount + 1
  · rw [if_pos h, endWindow_portB, setPort_a_portB]
  · rw [if_neg h, setPort_a_portB]

theorem countCell_portA (b : Bool) (s : State) : (countCell .b b s).portA = s.portA := by
  rw [countCell_eq]; dsimp only
  by_cases h : windowLength ≤ (s.port .b).windowCount + 1
  · rw [if_pos h, endWindow_portA, setPort_b_portA]
  · rw [if_neg h, setPort_b_portA]

theorem goodCell_portB (s : State) : (goodCell .a s).portB = s.portB := by
  unfold goodCell; rw [countCell_portB, bump_portB]; rfl

theorem goodCell_portA (s : State) : (goodCell .b s).portA = s.portA := by
  unfold goodCell; rw [countCell_portA, bump_portA]; rfl

/-! ### goodCell -/

@[simp] theorem goodCell_forwardSet (p : Port) (s : State) : (goodCell p s).forwardSet = s.forwardSet := (congrArg State.forwardSet (offPorts_goodCell p s) :)
@[simp] theorem goodCell_portBQueue (p : Port) (s : State) : (goodCell p s).portBQueue = s.portBQueue := (congrArg State.portBQueue (offPorts_goodCell p s) :)
@[simp] theorem goodCell_uplinkQueue (p : Port) (s : State) : (goodCell p s).uplinkQueue = s.uplinkQueue := (congrArg State.uplinkQueue (offPorts_goodCell p s) :)
@[simp] theorem goodCell_hidQueue (p : Port) (s : State) : (goodCell p s).hidQueue = s.hidQueue := (congrArg State.hidQueue (offPorts_goodCell p s) :)
@[simp] theorem goodCell_lastServed (p : Port) (s : State) : (goodCell p s).lastServed = s.lastServed := (congrArg State.lastServed (offPorts_goodCell p s) :)
@[simp] theorem goodCell_lastEventBegan (p : Port) (s : State) : (goodCell p s).lastEventBegan = s.lastEventBegan := (congrArg State.lastEventBegan (offPorts_goodCell p s) :)
@[simp] theorem goodCell_sources (p : Port) (s : State) : (goodCell p s).sources = s.sources := (congrArg State.sources (offPorts_goodCell p s) :)
@[simp] theorem goodCell_images (p : Port) (s : State) : (goodCell p s).images = s.images := (congrArg State.images (offPorts_goodCell p s) :)
@[simp] theorem goodCell_imageMem (p : Port) (s : State) : (goodCell p s).imageMem = s.imageMem := (congrArg State.imageMem (offPorts_goodCell p s) :)
@[simp] theorem goodCell_creation (p : Port) (s : State) : (goodCell p s).creation = s.creation := (congrArg State.creation (offPorts_goodCell p s) :)
@[simp] theorem goodCell_screens (p : Port) (s : State) : (goodCell p s).screens = s.screens := (congrArg State.screens (offPorts_goodCell p s) :)
@[simp] theorem goodCell_pendingLists (p : Port) (s : State) : (goodCell p s).pendingLists = s.pendingLists := (congrArg State.pendingLists (offPorts_goodCell p s) :)
@[simp] theorem goodCell_activeLists (p : Port) (s : State) : (goodCell p s).activeLists = s.activeLists := (congrArg State.activeLists (offPorts_goodCell p s) :)
@[simp] theorem goodCell_swapPending (p : Port) (s : State) : (goodCell p s).swapPending = s.swapPending := (congrArg State.swapPending (offPorts_goodCell p s) :)
@[simp] theorem goodCell_presets (p : Port) (s : State) : (goodCell p s).presets = s.presets := (congrArg State.presets (offPorts_goodCell p s) :)
@[simp] theorem goodCell_fences (p : Port) (s : State) : (goodCell p s).fences = s.fences := (congrArg State.fences (offPorts_goodCell p s) :)
@[simp] theorem goodCell_pointer (p : Port) (s : State) : (goodCell p s).pointer = s.pointer := (congrArg State.pointer (offPorts_goodCell p s) :)
@[simp] theorem goodCell_layout (p : Port) (s : State) : (goodCell p s).layout = s.layout := (congrArg State.layout (offPorts_goodCell p s) :)
@[simp] theorem goodCell_keyboard (p : Port) (s : State) : (goodCell p s).keyboard = s.keyboard := (congrArg State.keyboard (offPorts_goodCell p s) :)
@[simp] theorem goodCell_lampMessage (p : Port) (s : State) : (goodCell p s).lampMessage = s.lampMessage := (congrArg State.lampMessage (offPorts_goodCell p s) :)
@[simp] theorem goodCell_lampSent (p : Port) (s : State) : (goodCell p s).lampSent = s.lampSent := (congrArg State.lampSent (offPorts_goodCell p s) :)
@[simp] theorem goodCell_node (p : Port) (s : State) : (goodCell p s).node = s.node := (congrArg State.node (offPorts_goodCell p s) :)
@[simp] theorem goodCell_responses (p : Port) (s : State) : (goodCell p s).responses = s.responses := (congrArg State.responses (offPorts_goodCell p s) :)
@[simp] theorem goodCell_controller (p : Port) (s : State) : (goodCell p s).controller = s.controller := (congrArg State.controller (offPorts_goodCell p s) :)
@[simp] theorem goodCell_resetPending (p : Port) (s : State) : (goodCell p s).resetPending = s.resetPending := (congrArg State.resetPending (offPorts_goodCell p s) :)
@[simp] theorem goodCell_cause (p : Port) (s : State) : (goodCell p s).cause = s.cause := (congrArg State.cause (offPorts_goodCell p s) :)
@[simp] theorem goodCell_resetLine (p : Port) (s : State) : (goodCell p s).resetLine = s.resetLine := (congrArg State.resetLine (offPorts_goodCell p s) :)
@[simp] theorem goodCell_now (p : Port) (s : State) : (goodCell p s).now = s.now := (congrArg State.now (offPorts_goodCell p s) :)
@[simp] theorem goodCell_freeCount (p : Port) (s : State) : (goodCell p s).freeCount = s.freeCount := (congrArg State.freeCount (offPorts_goodCell p s) :)
@[simp] theorem goodCell_pending (p : Port) (s : State) : (goodCell p s).pending = s.pending := (congrArg State.pending (offPorts_goodCell p s) :)

/-! ### badCellEnds -/

@[simp] theorem badCellEnds_forwardSet (p : Port) (k : RxCheck) (rx : Option RxCell) (s : State) : (badCellEnds p k rx s).forwardSet = s.forwardSet := (congrArg State.forwardSet (offPorts_badCellEnds p k rx s) :)
@[simp] theorem badCellEnds_portBQueue (p : Port) (k : RxCheck) (rx : Option RxCell) (s : State) : (badCellEnds p k rx s).portBQueue = s.portBQueue := (congrArg State.portBQueue (offPorts_badCellEnds p k rx s) :)
@[simp] theorem badCellEnds_uplinkQueue (p : Port) (k : RxCheck) (rx : Option RxCell) (s : State) : (badCellEnds p k rx s).uplinkQueue = s.uplinkQueue := (congrArg State.uplinkQueue (offPorts_badCellEnds p k rx s) :)
@[simp] theorem badCellEnds_hidQueue (p : Port) (k : RxCheck) (rx : Option RxCell) (s : State) : (badCellEnds p k rx s).hidQueue = s.hidQueue := (congrArg State.hidQueue (offPorts_badCellEnds p k rx s) :)
@[simp] theorem badCellEnds_lastServed (p : Port) (k : RxCheck) (rx : Option RxCell) (s : State) : (badCellEnds p k rx s).lastServed = s.lastServed := (congrArg State.lastServed (offPorts_badCellEnds p k rx s) :)
@[simp] theorem badCellEnds_lastEventBegan (p : Port) (k : RxCheck) (rx : Option RxCell) (s : State) : (badCellEnds p k rx s).lastEventBegan = s.lastEventBegan := (congrArg State.lastEventBegan (offPorts_badCellEnds p k rx s) :)
@[simp] theorem badCellEnds_sources (p : Port) (k : RxCheck) (rx : Option RxCell) (s : State) : (badCellEnds p k rx s).sources = s.sources := (congrArg State.sources (offPorts_badCellEnds p k rx s) :)
@[simp] theorem badCellEnds_images (p : Port) (k : RxCheck) (rx : Option RxCell) (s : State) : (badCellEnds p k rx s).images = s.images := (congrArg State.images (offPorts_badCellEnds p k rx s) :)
@[simp] theorem badCellEnds_imageMem (p : Port) (k : RxCheck) (rx : Option RxCell) (s : State) : (badCellEnds p k rx s).imageMem = s.imageMem := (congrArg State.imageMem (offPorts_badCellEnds p k rx s) :)
@[simp] theorem badCellEnds_creation (p : Port) (k : RxCheck) (rx : Option RxCell) (s : State) : (badCellEnds p k rx s).creation = s.creation := (congrArg State.creation (offPorts_badCellEnds p k rx s) :)
@[simp] theorem badCellEnds_screens (p : Port) (k : RxCheck) (rx : Option RxCell) (s : State) : (badCellEnds p k rx s).screens = s.screens := (congrArg State.screens (offPorts_badCellEnds p k rx s) :)
@[simp] theorem badCellEnds_pendingLists (p : Port) (k : RxCheck) (rx : Option RxCell) (s : State) : (badCellEnds p k rx s).pendingLists = s.pendingLists := (congrArg State.pendingLists (offPorts_badCellEnds p k rx s) :)
@[simp] theorem badCellEnds_activeLists (p : Port) (k : RxCheck) (rx : Option RxCell) (s : State) : (badCellEnds p k rx s).activeLists = s.activeLists := (congrArg State.activeLists (offPorts_badCellEnds p k rx s) :)
@[simp] theorem badCellEnds_swapPending (p : Port) (k : RxCheck) (rx : Option RxCell) (s : State) : (badCellEnds p k rx s).swapPending = s.swapPending := (congrArg State.swapPending (offPorts_badCellEnds p k rx s) :)
@[simp] theorem badCellEnds_presets (p : Port) (k : RxCheck) (rx : Option RxCell) (s : State) : (badCellEnds p k rx s).presets = s.presets := (congrArg State.presets (offPorts_badCellEnds p k rx s) :)
@[simp] theorem badCellEnds_fences (p : Port) (k : RxCheck) (rx : Option RxCell) (s : State) : (badCellEnds p k rx s).fences = s.fences := (congrArg State.fences (offPorts_badCellEnds p k rx s) :)
@[simp] theorem badCellEnds_pointer (p : Port) (k : RxCheck) (rx : Option RxCell) (s : State) : (badCellEnds p k rx s).pointer = s.pointer := (congrArg State.pointer (offPorts_badCellEnds p k rx s) :)
@[simp] theorem badCellEnds_layout (p : Port) (k : RxCheck) (rx : Option RxCell) (s : State) : (badCellEnds p k rx s).layout = s.layout := (congrArg State.layout (offPorts_badCellEnds p k rx s) :)
@[simp] theorem badCellEnds_keyboard (p : Port) (k : RxCheck) (rx : Option RxCell) (s : State) : (badCellEnds p k rx s).keyboard = s.keyboard := (congrArg State.keyboard (offPorts_badCellEnds p k rx s) :)
@[simp] theorem badCellEnds_lampMessage (p : Port) (k : RxCheck) (rx : Option RxCell) (s : State) : (badCellEnds p k rx s).lampMessage = s.lampMessage := (congrArg State.lampMessage (offPorts_badCellEnds p k rx s) :)
@[simp] theorem badCellEnds_lampSent (p : Port) (k : RxCheck) (rx : Option RxCell) (s : State) : (badCellEnds p k rx s).lampSent = s.lampSent := (congrArg State.lampSent (offPorts_badCellEnds p k rx s) :)
@[simp] theorem badCellEnds_node (p : Port) (k : RxCheck) (rx : Option RxCell) (s : State) : (badCellEnds p k rx s).node = s.node := (congrArg State.node (offPorts_badCellEnds p k rx s) :)
@[simp] theorem badCellEnds_responses (p : Port) (k : RxCheck) (rx : Option RxCell) (s : State) : (badCellEnds p k rx s).responses = s.responses := (congrArg State.responses (offPorts_badCellEnds p k rx s) :)
@[simp] theorem badCellEnds_controller (p : Port) (k : RxCheck) (rx : Option RxCell) (s : State) : (badCellEnds p k rx s).controller = s.controller := (congrArg State.controller (offPorts_badCellEnds p k rx s) :)
@[simp] theorem badCellEnds_resetPending (p : Port) (k : RxCheck) (rx : Option RxCell) (s : State) : (badCellEnds p k rx s).resetPending = s.resetPending := (congrArg State.resetPending (offPorts_badCellEnds p k rx s) :)
@[simp] theorem badCellEnds_cause (p : Port) (k : RxCheck) (rx : Option RxCell) (s : State) : (badCellEnds p k rx s).cause = s.cause := (congrArg State.cause (offPorts_badCellEnds p k rx s) :)
@[simp] theorem badCellEnds_resetLine (p : Port) (k : RxCheck) (rx : Option RxCell) (s : State) : (badCellEnds p k rx s).resetLine = s.resetLine := (congrArg State.resetLine (offPorts_badCellEnds p k rx s) :)
@[simp] theorem badCellEnds_now (p : Port) (k : RxCheck) (rx : Option RxCell) (s : State) : (badCellEnds p k rx s).now = s.now := (congrArg State.now (offPorts_badCellEnds p k rx s) :)
@[simp] theorem badCellEnds_freeCount (p : Port) (k : RxCheck) (rx : Option RxCell) (s : State) : (badCellEnds p k rx s).freeCount = s.freeCount := (congrArg State.freeCount (offPorts_badCellEnds p k rx s) :)
@[simp] theorem badCellEnds_pending (p : Port) (k : RxCheck) (rx : Option RxCell) (s : State) : (badCellEnds p k rx s).pending = s.pending := (congrArg State.pending (offPorts_badCellEnds p k rx s) :)

/-! ### handedOn -/

@[simp] theorem handedOn_forwardSet (c : Cell) (s : State) : (handedOn c s).forwardSet = s.forwardSet := by unfold handedOn; split <;> simp
@[simp] theorem handedOn_uplinkQueue (c : Cell) (s : State) : (handedOn c s).uplinkQueue = s.uplinkQueue := by unfold handedOn; split <;> simp
@[simp] theorem handedOn_hidQueue (c : Cell) (s : State) : (handedOn c s).hidQueue = s.hidQueue := by unfold handedOn; split <;> simp
@[simp] theorem handedOn_lastServed (c : Cell) (s : State) : (handedOn c s).lastServed = s.lastServed := by unfold handedOn; split <;> simp
@[simp] theorem handedOn_lastEventBegan (c : Cell) (s : State) : (handedOn c s).lastEventBegan = s.lastEventBegan := by unfold handedOn; split <;> simp
@[simp] theorem handedOn_sources (c : Cell) (s : State) : (handedOn c s).sources = s.sources := by unfold handedOn; split <;> simp
@[simp] theorem handedOn_images (c : Cell) (s : State) : (handedOn c s).images = s.images := by unfold handedOn; split <;> simp
@[simp] theorem handedOn_imageMem (c : Cell) (s : State) : (handedOn c s).imageMem = s.imageMem := by unfold handedOn; split <;> simp
@[simp] theorem handedOn_creation (c : Cell) (s : State) : (handedOn c s).creation = s.creation := by unfold handedOn; split <;> simp
@[simp] theorem handedOn_screens (c : Cell) (s : State) : (handedOn c s).screens = s.screens := by unfold handedOn; split <;> simp
@[simp] theorem handedOn_pendingLists (c : Cell) (s : State) : (handedOn c s).pendingLists = s.pendingLists := by unfold handedOn; split <;> simp
@[simp] theorem handedOn_activeLists (c : Cell) (s : State) : (handedOn c s).activeLists = s.activeLists := by unfold handedOn; split <;> simp
@[simp] theorem handedOn_swapPending (c : Cell) (s : State) : (handedOn c s).swapPending = s.swapPending := by unfold handedOn; split <;> simp
@[simp] theorem handedOn_presets (c : Cell) (s : State) : (handedOn c s).presets = s.presets := by unfold handedOn; split <;> simp
@[simp] theorem handedOn_fences (c : Cell) (s : State) : (handedOn c s).fences = s.fences := by unfold handedOn; split <;> simp
@[simp] theorem handedOn_pointer (c : Cell) (s : State) : (handedOn c s).pointer = s.pointer := by unfold handedOn; split <;> simp
@[simp] theorem handedOn_layout (c : Cell) (s : State) : (handedOn c s).layout = s.layout := by unfold handedOn; split <;> simp
@[simp] theorem handedOn_keyboard (c : Cell) (s : State) : (handedOn c s).keyboard = s.keyboard := by unfold handedOn; split <;> simp
@[simp] theorem handedOn_lampMessage (c : Cell) (s : State) : (handedOn c s).lampMessage = s.lampMessage := by unfold handedOn; split <;> simp
@[simp] theorem handedOn_lampSent (c : Cell) (s : State) : (handedOn c s).lampSent = s.lampSent := by unfold handedOn; split <;> simp
@[simp] theorem handedOn_node (c : Cell) (s : State) : (handedOn c s).node = s.node := by unfold handedOn; split <;> simp
@[simp] theorem handedOn_responses (c : Cell) (s : State) : (handedOn c s).responses = s.responses := by unfold handedOn; split <;> simp
@[simp] theorem handedOn_controller (c : Cell) (s : State) : (handedOn c s).controller = s.controller := by unfold handedOn; split <;> simp
@[simp] theorem handedOn_resetPending (c : Cell) (s : State) : (handedOn c s).resetPending = s.resetPending := by unfold handedOn; split <;> simp
@[simp] theorem handedOn_cause (c : Cell) (s : State) : (handedOn c s).cause = s.cause := by unfold handedOn; split <;> simp
@[simp] theorem handedOn_resetLine (c : Cell) (s : State) : (handedOn c s).resetLine = s.resetLine := by unfold handedOn; split <;> simp
@[simp] theorem handedOn_now (c : Cell) (s : State) : (handedOn c s).now = s.now := by unfold handedOn; split <;> simp
@[simp] theorem handedOn_freeCount (c : Cell) (s : State) : (handedOn c s).freeCount = s.freeCount := by unfold handedOn; split <;> simp
@[simp] theorem handedOn_pending (c : Cell) (s : State) : (handedOn c s).pending = s.pending := by unfold handedOn; split <;> simp

/-! ### heardRequest -/

@[simp] theorem heardRequest_forwardSet (k : Byte) (r : Request) (s : State) : (heardRequest k r s).forwardSet = s.forwardSet := by unfold heardRequest; split <;> simp
@[simp] theorem heardRequest_uplinkQueue (k : Byte) (r : Request) (s : State) : (heardRequest k r s).uplinkQueue = s.uplinkQueue := by unfold heardRequest; split <;> simp
@[simp] theorem heardRequest_hidQueue (k : Byte) (r : Request) (s : State) : (heardRequest k r s).hidQueue = s.hidQueue := by unfold heardRequest; split <;> simp
@[simp] theorem heardRequest_lastServed (k : Byte) (r : Request) (s : State) : (heardRequest k r s).lastServed = s.lastServed := by unfold heardRequest; split <;> simp
@[simp] theorem heardRequest_lastEventBegan (k : Byte) (r : Request) (s : State) : (heardRequest k r s).lastEventBegan = s.lastEventBegan := by unfold heardRequest; split <;> simp
@[simp] theorem heardRequest_sources (k : Byte) (r : Request) (s : State) : (heardRequest k r s).sources = s.sources := by unfold heardRequest; split <;> simp
@[simp] theorem heardRequest_images (k : Byte) (r : Request) (s : State) : (heardRequest k r s).images = s.images := by unfold heardRequest; split <;> simp
@[simp] theorem heardRequest_imageMem (k : Byte) (r : Request) (s : State) : (heardRequest k r s).imageMem = s.imageMem := by unfold heardRequest; split <;> simp
@[simp] theorem heardRequest_creation (k : Byte) (r : Request) (s : State) : (heardRequest k r s).creation = s.creation := by unfold heardRequest; split <;> simp
@[simp] theorem heardRequest_screens (k : Byte) (r : Request) (s : State) : (heardRequest k r s).screens = s.screens := by unfold heardRequest; split <;> simp
@[simp] theorem heardRequest_pendingLists (k : Byte) (r : Request) (s : State) : (heardRequest k r s).pendingLists = s.pendingLists := by unfold heardRequest; split <;> simp
@[simp] theorem heardRequest_activeLists (k : Byte) (r : Request) (s : State) : (heardRequest k r s).activeLists = s.activeLists := by unfold heardRequest; split <;> simp
@[simp] theorem heardRequest_swapPending (k : Byte) (r : Request) (s : State) : (heardRequest k r s).swapPending = s.swapPending := by unfold heardRequest; split <;> simp
@[simp] theorem heardRequest_presets (k : Byte) (r : Request) (s : State) : (heardRequest k r s).presets = s.presets := by unfold heardRequest; split <;> simp
@[simp] theorem heardRequest_fences (k : Byte) (r : Request) (s : State) : (heardRequest k r s).fences = s.fences := by unfold heardRequest; split <;> simp
@[simp] theorem heardRequest_pointer (k : Byte) (r : Request) (s : State) : (heardRequest k r s).pointer = s.pointer := by unfold heardRequest; split <;> simp
@[simp] theorem heardRequest_layout (k : Byte) (r : Request) (s : State) : (heardRequest k r s).layout = s.layout := by unfold heardRequest; split <;> simp
@[simp] theorem heardRequest_keyboard (k : Byte) (r : Request) (s : State) : (heardRequest k r s).keyboard = s.keyboard := by unfold heardRequest; split <;> simp
@[simp] theorem heardRequest_lampMessage (k : Byte) (r : Request) (s : State) : (heardRequest k r s).lampMessage = s.lampMessage := by unfold heardRequest; split <;> simp
@[simp] theorem heardRequest_lampSent (k : Byte) (r : Request) (s : State) : (heardRequest k r s).lampSent = s.lampSent := by unfold heardRequest; split <;> simp
@[simp] theorem heardRequest_node (k : Byte) (r : Request) (s : State) : (heardRequest k r s).node = s.node := by unfold heardRequest; split <;> simp
@[simp] theorem heardRequest_responses (k : Byte) (r : Request) (s : State) : (heardRequest k r s).responses = s.responses := by unfold heardRequest; split <;> simp
@[simp] theorem heardRequest_controller (k : Byte) (r : Request) (s : State) : (heardRequest k r s).controller = s.controller := by unfold heardRequest; split <;> simp
@[simp] theorem heardRequest_resetPending (k : Byte) (r : Request) (s : State) : (heardRequest k r s).resetPending = s.resetPending := by unfold heardRequest; split <;> simp
@[simp] theorem heardRequest_cause (k : Byte) (r : Request) (s : State) : (heardRequest k r s).cause = s.cause := by unfold heardRequest; split <;> simp
@[simp] theorem heardRequest_resetLine (k : Byte) (r : Request) (s : State) : (heardRequest k r s).resetLine = s.resetLine := by unfold heardRequest; split <;> simp
@[simp] theorem heardRequest_now (k : Byte) (r : Request) (s : State) : (heardRequest k r s).now = s.now := by unfold heardRequest; split <;> simp
@[simp] theorem heardRequest_freeCount (k : Byte) (r : Request) (s : State) : (heardRequest k r s).freeCount = s.freeCount := by unfold heardRequest; split <;> simp
@[simp] theorem heardRequest_pending (k : Byte) (r : Request) (s : State) : (heardRequest k r s).pending = s.pending := by unfold heardRequest; split <;> simp

/-! ### accepted -/

@[simp] theorem accepted_forwardSet (k : Byte) (r : Request) (s : State) : (accepted k r s).forwardSet = s.forwardSet := heardRequest_forwardSet k r s
@[simp] theorem accepted_uplinkQueue (k : Byte) (r : Request) (s : State) : (accepted k r s).uplinkQueue = s.uplinkQueue := heardRequest_uplinkQueue k r s
@[simp] theorem accepted_hidQueue (k : Byte) (r : Request) (s : State) : (accepted k r s).hidQueue = s.hidQueue := heardRequest_hidQueue k r s
@[simp] theorem accepted_lastServed (k : Byte) (r : Request) (s : State) : (accepted k r s).lastServed = s.lastServed := heardRequest_lastServed k r s
@[simp] theorem accepted_lastEventBegan (k : Byte) (r : Request) (s : State) : (accepted k r s).lastEventBegan = s.lastEventBegan := heardRequest_lastEventBegan k r s
@[simp] theorem accepted_sources (k : Byte) (r : Request) (s : State) : (accepted k r s).sources = s.sources := heardRequest_sources k r s
@[simp] theorem accepted_images (k : Byte) (r : Request) (s : State) : (accepted k r s).images = s.images := heardRequest_images k r s
@[simp] theorem accepted_imageMem (k : Byte) (r : Request) (s : State) : (accepted k r s).imageMem = s.imageMem := heardRequest_imageMem k r s
@[simp] theorem accepted_creation (k : Byte) (r : Request) (s : State) : (accepted k r s).creation = s.creation := heardRequest_creation k r s
@[simp] theorem accepted_screens (k : Byte) (r : Request) (s : State) : (accepted k r s).screens = s.screens := heardRequest_screens k r s
@[simp] theorem accepted_pendingLists (k : Byte) (r : Request) (s : State) : (accepted k r s).pendingLists = s.pendingLists := heardRequest_pendingLists k r s
@[simp] theorem accepted_activeLists (k : Byte) (r : Request) (s : State) : (accepted k r s).activeLists = s.activeLists := heardRequest_activeLists k r s
@[simp] theorem accepted_swapPending (k : Byte) (r : Request) (s : State) : (accepted k r s).swapPending = s.swapPending := heardRequest_swapPending k r s
@[simp] theorem accepted_presets (k : Byte) (r : Request) (s : State) : (accepted k r s).presets = s.presets := heardRequest_presets k r s
@[simp] theorem accepted_fences (k : Byte) (r : Request) (s : State) : (accepted k r s).fences = s.fences := heardRequest_fences k r s
@[simp] theorem accepted_pointer (k : Byte) (r : Request) (s : State) : (accepted k r s).pointer = s.pointer := heardRequest_pointer k r s
@[simp] theorem accepted_layout (k : Byte) (r : Request) (s : State) : (accepted k r s).layout = s.layout := heardRequest_layout k r s
@[simp] theorem accepted_keyboard (k : Byte) (r : Request) (s : State) : (accepted k r s).keyboard = s.keyboard := heardRequest_keyboard k r s
@[simp] theorem accepted_lampMessage (k : Byte) (r : Request) (s : State) : (accepted k r s).lampMessage = s.lampMessage := heardRequest_lampMessage k r s
@[simp] theorem accepted_lampSent (k : Byte) (r : Request) (s : State) : (accepted k r s).lampSent = s.lampSent := heardRequest_lampSent k r s
@[simp] theorem accepted_node (k : Byte) (r : Request) (s : State) : (accepted k r s).node = s.node := heardRequest_node k r s
@[simp] theorem accepted_responses (k : Byte) (r : Request) (s : State) : (accepted k r s).responses = s.responses := heardRequest_responses k r s
@[simp] theorem accepted_resetPending (k : Byte) (r : Request) (s : State) : (accepted k r s).resetPending = s.resetPending := heardRequest_resetPending k r s
@[simp] theorem accepted_cause (k : Byte) (r : Request) (s : State) : (accepted k r s).cause = s.cause := heardRequest_cause k r s
@[simp] theorem accepted_resetLine (k : Byte) (r : Request) (s : State) : (accepted k r s).resetLine = s.resetLine := heardRequest_resetLine k r s
@[simp] theorem accepted_now (k : Byte) (r : Request) (s : State) : (accepted k r s).now = s.now := heardRequest_now k r s
@[simp] theorem accepted_freeCount (k : Byte) (r : Request) (s : State) : (accepted k r s).freeCount = s.freeCount := heardRequest_freeCount k r s
@[simp] theorem accepted_pending (k : Byte) (r : Request) (s : State) : (accepted k r s).pending = s.pending := heardRequest_pending k r s

@[simp] theorem accepted_controller (k : Byte) (r : Request) (s : State) : (accepted k r s).controller = r.origin := rfl

/-! ### Events -/

/-- A cell that arrives ends, and its handling runs on the state after its end (R8, R9). -/
theorem cellEvent_of_arrives {p : Port} {c : Cell} {s : State} (h : Arrives s p c) (f : State → State) :
    whenRunning (cellEvent p c f) s = f (goodCell p s) := by
  obtain ⟨h1, h2, h3⟩ := h
  have e : s.canEnd p ⟨cellBytes c, false⟩ = true := by
    unfold State.canEnd; rcases h3 with h3 | h3 <;> simp [h2, h3]
  unfold whenRunning cellEvent onlyIf
  rw [h1, if_neg Bool.false_ne_true, if_pos e]

/-- A request whose cell arrives is managed on the state in which it has been heard (R23). -/
theorem requestEvent_of_arrives {s : State} {k : Byte} {r : Request} (h : Arrives s .a (requestCell s.node.address k r))
    (f : State → State) : whenRunning (requestEvent k r f) s = manage r f (heardRequest k r s) := by
  have e := cellEvent_of_arrives h (fun u => manage r f (if r.toAll then offerB (requestCell s.node.address k r) u else u))
  unfold whenRunning at e ⊢
  rw [h.1, if_neg Bool.false_ne_true] at e ⊢
  unfold requestEvent heardRequest
  exact e

/-- A request that is executed does its work on the state in which it has been accepted (R166). -/
theorem requestEvent_of_executes {s : State} {k : Byte} {r : Request} (h : Executes s k r) (f : State → State) :
    whenRunning (requestEvent k r f) s = f (accepted k r s) := by
  obtain ⟨h1, h2, h3⟩ := h
  rw [requestEvent_of_arrives h1]
  have e1 : (heardRequest k r s).resetPending = false := by rw [heardRequest_resetPending, h2]
  have e2 : (heardRequest k r s).responseRoom = true := by
    unfold State.responseRoom; rw [heardRequest_responses]; exact decide_eq_true h3
  unfold manage
  rw [e1, if_neg Bool.false_ne_true, e2, if_pos rfl]
  rfl

/-! ### What a transmit side sends (R11) -/

/-- A cell takes two code groups more than it has bytes. -/
@[simp] theorem length_cellGroups (c : Cell) : (cellGroups c).length = (cellBytes c).length + 2 := by
  simp [cellGroups]

/-- With nothing in flight, every group sent is idle. -/
theorem sentGroup_of_free {s : State} {p : Port} (h : s.resetLine = false) (e : (s.port p).tx = none) (n : Nat) :
    s.sentGroup p n = some .idle := by
  simp [State.sentGroup, h, e]

/-- With a cell in flight, its code groups are sent one after another. -/
theorem sentGroup_of_inFlight {s : State} {p : Port} {f : InFlight} (h : s.resetLine = false) (e : (s.port p).tx = some f) (n : Nat) :
    s.sentGroup p n = some ((cellGroups f.cell).getD n .idle) := by
  simp [State.sentGroup, h, e]

end Sys2Proof.Machine
end

