-- ==== Sys2Proof/Laws/Memory.lean ====
section
/-!
SUPPORT. The sorted stores and the image memory (R48, R64): a read after a write gives what was written and every other place is as it
was; every write keeps the canonical form, and the memory of `State.reset` has it.
-/

namespace Sys2Proof.Machine

variable {α : Type}

/-! ### Stores -/

theorem storeGet_storePut (l : List (Nat × α)) (n : Nat) (x : α) (m : Nat) :
    storeGet (storePut l n x) m = if m = n then some x else storeGet l m := by
  induction l with
  | nil => simp [storePut, storeGet]
  | cons e t ih =>
    obtain ⟨k, v⟩ := e
    unfold storePut
    split
    · by_cases h : m = n <;> simp [storeGet, h]
    · split
      · rename_i h; subst h
        by_cases h : m = n <;> simp [storeGet, h]
      · by_cases h : m = k
        · have : m ≠ n := by omega
          simp [storeGet, h]; intro e; omega
        · simp [storeGet, h, ih]

/-- The keys of a sorted store lie above its head's. -/
theorem storeSorted_cons {k : Nat} {v : α} {t : List (Nat × α)} :
    storeSorted ((k, v) :: t) = true ↔ (∀ e ∈ t, k < e.1) ∧ storeSorted t = true := by
  induction t generalizing k v with
  | nil => simp [storeSorted]
  | cons e t ih =>
    obtain ⟨k', v'⟩ := e
    have h := @ih k' v'
    simp only [storeSorted, Bool.and_eq_true, decide_eq_true_eq, List.mem_cons, forall_eq_or_imp]
    constructor
    · rintro ⟨a, b⟩
      exact ⟨⟨a, fun e he => Nat.lt_trans a ((h.1 b).1 e he)⟩, b⟩
    · rintro ⟨⟨a, _⟩, b⟩
      exact ⟨a, b⟩

theorem mem_storePut {l : List (Nat × α)} {n : Nat} {x : α} {e : Nat × α} (h : e ∈ storePut l n x) : e = (n, x) ∨ e ∈ l := by
  induction l with
  | nil => simpa [storePut] using h
  | cons q t ih =>
    obtain ⟨k, v⟩ := q
    unfold storePut at h
    split at h
    · simpa using h
    · split at h
      · rcases List.mem_cons.1 h with h | h
        · exact .inl h
        · exact .inr (List.mem_cons_of_mem _ h)
      · rcases List.mem_cons.1 h with h | h
        · exact .inr (by simp [h])
        · exact (ih h).imp id (List.mem_cons_of_mem _)

theorem mem_storeErase {l : List (Nat × α)} {n : Nat} {e : Nat × α} (h : e ∈ storeErase l n) : e ∈ l := by
  induction l with
  | nil => simp [storeErase] at h
  | cons q t ih =>
    obtain ⟨k, v⟩ := q
    unfold storeErase at h
    split at h
    · exact List.mem_cons_of_mem _ h
    · rcases List.mem_cons.1 h with h | h
      · simp [h]
      · exact List.mem_cons_of_mem _ (ih h)

/-- A write keeps the keys strictly rising. -/
theorem storeSorted_storePut {l : List (Nat × α)} (h : storeSorted l = true) (n : Nat) (x : α) :
    storeSorted (storePut l n x) = true := by
  induction l with
  | nil => rfl
  | cons e t ih =>
    obtain ⟨k, v⟩ := e
    obtain ⟨a, b⟩ := storeSorted_cons.1 h
    unfold storePut
    split
    · rename_i c
      refine storeSorted_cons.2 ⟨fun e he => ?_, h⟩
      rcases List.mem_cons.1 he with he | he
      · simpa [he] using c
      · exact Nat.lt_trans c (a e he)
    · split
      · rename_i c; subst c; exact storeSorted_cons.2 ⟨a, b⟩
      · refine storeSorted_cons.2 ⟨fun e he => ?_, ih b⟩
        rcases mem_storePut he with he | he
        · subst he; show k < n; omega
        · exact a e he

/-- An erasure keeps the keys strictly rising. -/
theorem storeSorted_storeErase {l : List (Nat × α)} (h : storeSorted l = true) (n : Nat) :
    storeSorted (storeErase l n) = true := by
  induction l with
  | nil => rfl
  | cons e t ih =>
    obtain ⟨k, v⟩ := e
    obtain ⟨a, b⟩ := storeSorted_cons.1 h
    unfold storeErase
    split
    · exact b
    · exact storeSorted_cons.2 ⟨fun e he => a e (mem_storeErase he), ih b⟩

/-- Nothing stands at a key below every listed one. -/
theorem storeGet_eq_none {l : List (Nat × α)} {m : Nat} (h : ∀ e ∈ l, m < e.1) : storeGet l m = none := by
  induction l with
  | nil => rfl
  | cons e t ih =>
    obtain ⟨k, v⟩ := e
    have : m < k := h (k, v) (by simp)
    rw [storeGet, if_neg (by omega)]
    exact ih fun e he => h e (List.mem_cons_of_mem _ he)

theorem storeGet_storeErase {l : List (Nat × α)} (h : storeSorted l = true) (n m : Nat) :
    storeGet (storeErase l n) m = if m = n then none else storeGet l m := by
  induction l with
  | nil => simp [storeErase, storeGet]
  | cons e t ih =>
    obtain ⟨k, v⟩ := e
    obtain ⟨a, b⟩ := storeSorted_cons.1 h
    unfold storeErase
    split
    · rename_i c; subst c
      by_cases d : m = n
      · subst d; simpa using storeGet_eq_none a
      · simp [storeGet, d]
    · by_cases d : m = k
      · have : m ≠ n := by omega
        simp [storeGet, d]; intro e; omega
      · simp [storeGet, d, ih b]

/-! ### The image memory -/

/-- R64: a tile written is read back. -/
theorem memRead_memWrite_self {m : List (Nat × TilePixels)} (h : Memory.wf m = true) (a : Nat) (t : TilePixels) :
    memRead (memWrite m a t) a = t := by
  have s : storeSorted m = true := by simp only [Memory.wf, Bool.and_eq_true] at h; exact h.1
  unfold memRead memWrite
  split
  · rename_i e; rw [storeGet_storeErase s]; simp [e]
  · rw [storeGet_storePut]; simp

/-- R64: a write leaves every other place as it was. -/
theorem memRead_memWrite_of_ne {m : List (Nat × TilePixels)} (h : Memory.wf m = true) {a b : Nat} (n : b ≠ a) (t : TilePixels) :
    memRead (memWrite m a t) b = memRead m b := by
  have s : storeSorted m = true := by simp only [Memory.wf, Bool.and_eq_true] at h; exact h.1
  unfold memRead memWrite
  split
  · rw [storeGet_storeErase s, if_neg n]
  · rw [storeGet_storePut, if_neg n]

/-- Every write keeps the canonical form. -/
theorem wf_memWrite {m : List (Nat × TilePixels)} (h : Memory.wf m = true) (a : Nat) (t : TilePixels) :
    Memory.wf (memWrite m a t) = true := by
  simp only [Memory.wf, Bool.and_eq_true, List.all_eq_true, bne_iff_ne] at h ⊢
  obtain ⟨s, f⟩ := h
  unfold memWrite
  split
  · exact ⟨storeSorted_storeErase s a, fun e he => f e (mem_storeErase he)⟩
  · rename_i n
    refine ⟨storeSorted_storePut s a t, fun e he => ?_⟩
    rcases mem_storePut he with he | he
    · subst he; exact n
    · exact f e he

/-- The image memory right after reset is in its canonical form. -/
theorem wf_reset : Memory.wf State.reset.imageMem = true := rfl

end Sys2Proof.Machine
end

