-- ==== Sys2Proof/Tests/Slice0.lean ====
section
/-!
SUPPORT. The model's own tests, each a named theorem. First the well-formedness checks, each with an ill-formed command that it refuses;
then the layouts and worked examples of the manual, one event each (the expected values are the manual's); then, for each statement with
hypotheses, a witness: a concrete state and operands that meet them, clause by clause.
-/

namespace Sys2Proof.Tests

open Sys2Proof.Machine

/-! ### Small states -/

/-- Right after power-on, but with both ports UP. -/
def up : State :=
  { State.reset with portA := { PortState.reset with link := .up }, portB := { PortState.reset with link := .up } }

/-- The state a command leaves. -/
def after (i : Instr) (s : State) : State :=
  match exec i s with
  | .next t => t
  | .fault _ => s
  | .refused _ => s

/-- A slot given a link address and a state; its timers run from 0 when it is LIVE or STALE. -/
def slotIn (i : Slot) (a : Addr) (x : SrcState) (s : State) : State :=
  let since := if x.heard then some 0 else none
  setSrc i { s.src i with addr := some a, state := x, lastAccepted := since, silenceTimer := since, statusTimer := since } s

/-- Slot 0 with link address 7, in a state. -/
def slot0 (x : SrcState) : State := slotIn 0 7 x up

/-- A screen of a slot ADMITTED in an image slot. -/
def grantImage (i : Slot) (k : SrcScreen) (x : ImageIx) (w h : Nat) (f : Tracking → Tracking) (s : State) : State :=
  setImage x (some (f (freshTracking i k w h 0))) (setEntry i k (some ⟨w, h, .admitted x⟩) s)

/-- A desk screen enabled at a size, 60 pictures a second, its picture begun at 0. -/
def enable (d : Desk) (w h : Nat) (s : State) : State := setScreen d ⟨true, w, h, 60, false, false, some 0⟩ s

/-- The pointer put on a screen, and the re-evaluation that follows. -/
def point (d : Desk) (x y : Nat) (s : State) : State :=
  reevaluate { s with pointer := { s.pointer with screen := some d, px := x, py := y } }

/-- A region record with input ON. -/
def region (id : Byte) (x y w h : Nat) (p : Option SourcePart) (fill : Colour) : Region := ⟨id, x, y, w, h, p, true, fill⟩

/-- A request from the room controller at address 10. -/
def request (table index count : Nat) (data : List Byte) : Request :=
  ⟨10, false, 0, BitVec.ofNat 8 table, BitVec.ofNat 16 index, BitVec.ofNat 16 count, data⟩

/-! ### Well-formedness: each check refuses an ill-formed command -/

theorem test_wf_linkUp_needs_a_valid_group : (Instr.linkUp .a .invalid).wellFormed = false := by decide
theorem test_wf_badCell_needs_a_failure :
    (Instr.badCell .a ⟨cellBytes ⟨.event, 1, 2, [0, 0, 0, 0]⟩, false⟩ .atEnd).wellFormed = false := by decide +kernel
theorem test_wf_badCell_holds_at_most_1035_bytes :
    (Instr.badCell .a ⟨List.replicate 1036 0, true⟩ .atEnd).wellFormed = false := by decide +kernel
theorem test_wf_wrongDirection_is_of_an_up_kind :
    (Instr.wrongDirectionCell ⟨.frameEnd, 1, 2, [0, 0, 0, 0, 0]⟩).wellFormed = false := by decide
theorem test_wf_wrongDirection_has_its_size : (Instr.wrongDirectionCell ⟨.event, 1, 2, [0]⟩).wellFormed = false := by decide
theorem test_wf_forwarded_is_not_for_all : (Instr.mgmtReqForwarded 1 4095 (List.replicate 8 0)).wellFormed = false := by decide
theorem test_wf_forwarded_has_its_size : (Instr.mgmtReqForwarded 1 2 (List.replicate 7 0)).wellFormed = false := by decide
theorem test_wf_get_is_not_of_source : (Instr.get (request 11 0 1 [])).wellFormed = false := by decide
theorem test_wf_getSource_is_of_source : (Instr.getSource (request 12 0 1 [])).wellFormed = false := by decide
theorem test_wf_data_is_at_most_1016_bytes :
    (Instr.swap (request 0 0 0 (List.replicate 1017 0))).wellFormed = false := by decide +kernel
theorem test_wf_put_fails_its_header : (Instr.put (request 2 0 1 [0, 7])).wellFormed = false := by decide
theorem test_wf_putNode_names_its_table : (Instr.putNode (request 2 0 1 [0, 7])).wellFormed = false := by decide
theorem test_wf_putSubscribe_passes_its_header : (Instr.putSubscribe (request 2 8 1 [0, 7])).wellFormed = false := by decide
theorem test_wf_putForward_has_its_data : (Instr.putForward (request 3 0 1 [7])).wellFormed = false := by decide
theorem test_wf_putScreen_names_its_table : (Instr.putScreen (request 5 0 0 [])).wellFormed = false := by decide
theorem test_wf_putLayout_names_its_table : (Instr.putLayout (request 4 0 0 [])).wellFormed = false := by decide
theorem test_wf_putRegionPending_names_its_table : (Instr.putRegionPending (request 7 0 0 [])).wellFormed = false := by decide
theorem test_wf_putHotkey_names_its_table : (Instr.putHotkey (request 10 0 0 [])).wellFormed = false := by decide
theorem test_wf_putDeskHalf_names_its_table : (Instr.putDeskHalf (request 9 0 0 [])).wellFormed = false := by decide
theorem test_wf_unknown_is_none_of_the_ten : (Instr.unknownRequest 10 (request 0 0 0 [])).wellFormed = false := by decide
theorem test_wf_portBCell_has_its_size : (Instr.portBCell ⟨.event, 1, 2, [0]⟩).wellFormed = false := by decide
theorem test_wf_report_fits_16_bits : (Instr.deskPointerReport 0 32768 0 0).wellFormed = false := by decide

/-! ### Layouts (R7, R14) -/

/-- R7's check value: the CRC of the ASCII digits 1 to 9. -/
theorem test_crc_check_value : crc32 [0x31, 0x32, 0x33, 0x34, 0x35, 0x36, 0x37, 0x38, 0x39] = 0xFC891918 := by decide +kernel

/-- R14, R15: a FRAME_END's header and payload byte by byte: kind 0x11, length 5, origin 0x123, destination 0xFFF, screen 1, frame 0x0102,
count 3. -/
theorem test_frameEnd_bytes :
    cellBody ⟨.frameEnd, 0x123, 0xFFF, frameEndPayload ⟨1, 0x0102, 3⟩⟩ =
      [0x11, 0x00, 0x05, 0x01, 0x23, 0x0F, 0xFF, 1, 0x01, 0x02, 0x00, 0x03] := by decide +kernel

/-- R17: a request's header byte by byte: tag 0x0101, kind 5 (FENCE), and the fields it does not use 0. -/
theorem test_fence_bytes :
    (requestCell 0x0FE 5 ⟨10, false, 0x0101, 0, 0, 0, []⟩) = ⟨.mgmtReq, 10, 0x0FE, [1, 1, 5, 0, 0, 0, 0, 0]⟩ := by decide +kernel

/-! ### Worked examples of the manual -/

/-- 1, quality over six windows: window 1, 20 bad cells. -/
theorem test_quality_window_1 :
    let t := after (.qualityWindowEnd .a) { up with portA := { up.portA with windowCount := 4096, windowBad := 20 } }
    t.portA.quality = .degraded ∧ t.flagged .linkADegraded = true ∧ t.effectiveAgeLimit = 150 := by decide +kernel

/-- 1, quality over six windows: window 3, 16 bad cells, sets no flag. -/
theorem test_quality_window_3 :
    let t := after (.qualityWindowEnd .a)
      { up with portA := { up.portA with windowCount := 4096, windowBad := 16, quality := .degraded } }
    t.portA.quality = .degraded ∧ t.flagged .linkADegraded = false := by decide +kernel

/-- 2, merging: another button set is appended; the same one merges into the newest. -/
theorem test_pointer_entries_merge :
    (givePointer 2 0 18530 18230 1 0 (givePointer 2 0 18520 18220 1 0 (givePointer 2 0 18500 18212 0 0 up))).hidQueue =
      [.pointer 2 0 18500 18212 0 0, .pointer 2 0 18530 18230 1 0] := by decide +kernel

/-- R29: entries of wheel +100 and +60 merge to +127. -/
theorem test_wheel_sum_is_clamped :
    (givePointer 2 0 1 1 0 60 (givePointer 2 0 1 1 0 100 up)).hidQueue = [.pointer 2 0 1 1 0 127] := by decide +kernel

/-- 3, a source falls silent: the 300 ms expiry at 5300. -/
theorem test_silence_at_300_ms :
    let s := setSrc 0 { (slot0 .live).src 0 with silenceTimer := some 5000000 } (slot0 .live)
    let t := after (.silenceExpiryStale 0) s
    t.now = 5300000 ∧ (t.src 0).state = .stale ∧ t.flagged .sourceStale = true := by decide +kernel

/-- 4, frame tracking, event f: the jump from 102 to 9000. -/
theorem test_frame_jump :
    let s := grantImage 0 0 6 256 256 (fun t => { t with current := some 102, received := 1, stamps := [(0, 101)], entries := [] }) (slot0 .live)
    let t := after (.tile 7 0 ⟨0, 9000, 3, 0, .fill Colour.black⟩) s
    (t.image 6).map (fun v => (v.current, v.received, v.stamp 0, v.stamp 3, v.entries)) =
        some (some 9000, 1, none, some 9000, [⟨0, 256, some 9000, 255, false, 0⟩]) ∧
      t.counter .tsResync = 1 := by decide +kernel

/-- 5, one scanner step: the tile 30,237 frames old is brought to 30,000. -/
theorem test_ceiling :
    ((ceiling 701 ⟨{ freshTracking 4 0 256 256 0 with cursor := 215, stamps := [(215, 36000)] }, 0, none, 0, 0, 0⟩).track.stamp 215) =
      some 36237 := by decide +kernel

/-- 6, averaging: a block with red values 10, 11, 11 and 13 shows 11. -/
theorem test_mean_rounds : meanOf [10, 11, 11, 13] = 11 := by decide

/-- 8, residues at speed level 3: +3 from 0, and −2 from 8. -/
theorem test_residues : moveAxis 3 0 3 = (1, 14) ∧ moveAxis 3 8 (-2) = (0, -12) := by decide

/-- 8, crossing between two screens: the first report. -/
theorem test_crossing :
    let s := enable 1 2560 1440 (enable 0 1920 1080 up)
    let s := { s with
      layout := s.layout.set 0 { LayoutEntry.reset with right := ⟨some 1, -180⟩ }
      pointer := { s.pointer with screen := some 0, px := 1900, py := 500 } }
    let t := after (.deskPointerReport 0 40 (-3) 0) s
    (t.pointer.screen, t.pointer.px, t.pointer.py) = (some 1, 20, 317) ∧ t.counter .psCrossings = 1 := by decide +kernel

/-- 8, a drag: event a. -/
theorem test_drag_starts :
    let s := grantImage 2 0 0 3840 2160 id (slotIn 2 22 .live (enable 0 1920 1080 up))
    let s := setActive 0 [region 7 960 0 960 540 (some ⟨2, 0, 0, 0, 2⟩) Colour.black] s
    let t := after (.deskPointerReport 1 0 0 0) (point 0 1500 300 s)
    t.pointer.capture = some ⟨0, 7, 2, 0, 18436, 18212⟩ ∧ .pointer 2 0 18436 18212 1 0 ∈ t.hidQueue ∧
      t.halfFlag 2 .pointer = true ∧ t.halfFlag 2 .capture = true := by decide +kernel

/-- 9, keys held across two focus changes: event e, the lists after FOCUS_NEXT. -/
theorem test_focus_next :
    let s := slotIn 5 55 .live (slotIn 2 22 .live up)
    let s := setHalfFlag 5 .viewing true (setHalfFlag 2 .viewing true (setHalfFlag 5 .focus true s))
    let s := { s with keyboard := { s.keyboard with
      modifiers := 2, keys := [5], forwarded := [5], focus := some 5, hotkeys := s.keyboard.hotkeys.set 3 ⟨true, 5, 0x2B, 2, 0⟩ } }
    let t := after (.deskKeyboardReport 5 #v[5, 0x2B, 0, 0, 0, 0]) s
    (t.keyboard.keys, t.keyboard.swallowed, t.keyboard.forwarded) = ([5, 0x2B], [0x2B, 5], []) ∧
      (t.keyboard.focus, t.keyboard.lock) = (some 2, true) ∧ t.hidQueue = [.key 5 0 [], .key 2 5 []] := by decide +kernel

/-- 10, a node reset behind two answers: event b, the clamped PUT to NODE. -/
theorem test_age_limit_is_clamped :
    let t := after (.putNode (request 1 0 1 [0x0F, 0xFE, 0, 16, 2, 0, 30, 6, 0, 9, 0, 0, 0])) up
    t.node.ageLimit = 60 ∧ t.responses = [⟨0, .clamped, [], 10, false⟩] ∧ t.flagged .valueClamped = true := by decide +kernel

/-- 11, a torn frame healed: 8,160 tiles less 39 are awaited (here 256 less 2, as in chapter 4's example, event c). -/
theorem test_torn_repair :
    let s := grantImage 0 0 6 256 256 (fun t => { t with
      current := some 101, received := 2, stamps := [(0, 101), (1, 101), (2, 100)], entries := [] }) (slot0 .live)
    let t := after (.frameEnd 7 0 ⟨0, 101, 3⟩) s
    (t.image 6).map (·.entries) = some [⟨0, 256, some 101, 254, false, 0⟩] ∧ t.counter .tsTorn = 1 := by decide +kernel

/-! ### Witnesses: resets and link ports -/

theorem up_arrives (p : Port) (c : Cell) : Arrives up p c := by cases p <;> exact ⟨rfl, rfl, .inl rfl⟩

theorem up_executes (k : Byte) (r : Request) : Executes up k r := ⟨up_arrives _ _, rfl, by decide⟩

/-- Port A of `up` changed. -/
def withA (f : PortState → PortState) (s : State) : State := { s with portA := f s.portA }

/-- Port B of `up` changed. -/
def withB (f : PortState → PortState) (s : State) : State := { s with portB := f s.portB }

/-- A NODE_RESET response in flight on Port A. -/
def resetFlies : State := withA (fun x => { x with tx := some ⟨⟨.mgmtRsp, 4094, 10, [0, 0, 0]⟩, .response true⟩, invalidRun := 3 }) up

theorem witness_StepRunsTheFrontCommand : State.reset.pending = [] := rfl

theorem witness_ResetsRestart :
    (asserted up).resetLine = true ∧ (∀ x, Instr.portABegin ≠ .powerOn x) ∧ Instr.portABegin ≠ .resetLineAssert ∧
      ∀ x, Instr.portABegin ≠ .resetLineRelease x := ⟨rfl, nofun, nofun, nofun⟩

theorem witness_NodeResetTakesEffect :
    resetFlies.resetLine = false ∧ resetFlies.resetInFlight = true ∧ resetFlies.portA.link = .up ∧
      resetFlies.portA.invalidRun = 3 := by decide

theorem witness_LawsHoldAtReset : (∃ straps, State.poweredOn 4095 = State.poweredOn straps) := ⟨4095, rfl⟩

/-- A port that is not UP: an invalid group; the group before the threshold; the one that reaches it, short and long. -/
theorem witness_CodeGroupsAtAPort_acquiring :
    let s (n : Nat) : State := withA (fun x => { x with link := .acquiring, lockCount := n }) State.reset
    ((s 0).resetLine = false ∧ ((s 0).port .a).link ≠ .up ∧ CodeGroup.idle ≠ .invalid) ∧
      ((s 4094).portA.link ≠ .down ∧ min 4096 ((s 4094).portA.lockCount + 1) < 4096 ∧ (s 4094).node.shortLock = false) ∧
      ((s 4095).portA.link ≠ .down ∧ 4096 ≤ min 4096 ((s 4095).portA.lockCount + 1)) ∧
      32 ≤ min 4096 ((s 31).portA.lockCount + 1) ∧ ¬32 ≤ min 4096 ((s 30).portA.lockCount + 1) := by decide

/-- An UP port: no cell in reception, one of 1034 bytes, and the third invalid group of a run. -/
theorem witness_CodeGroupsAtAPort_up :
    let s (rx : Option RxCell) : State := withA (fun x => { x with rx := rx, invalidRun := 2 }) up
    ((s none).resetLine = false ∧ ((s none).port .a).link = .up ∧ ((s none).port .a).rx = none) ∧
      (((s (some ⟨List.replicate 1034 0, false⟩)).port .a).rx = some ⟨List.replicate 1034 0, false⟩ ∧
        (List.replicate 1034 (0 : Byte)).length < 1035) ∧ ((s none).port .a).invalidRun < 3 := by decide +kernel

theorem witness_CellsAreCounted :
    ((withA (fun x => { x with windowCount := 4094 }) up).portA.windowCount + 1 < 4096 ∧
      4096 ≤ (withA (fun x => { x with windowCount := 4095 }) up).portA.windowCount + 1) ∧
    (up.resetLine = false ∧ (up.port .b).link = .up ∧ (up.port .b).rx = none ∧
      firstFailure ⟨[0x11, 0, 0, 0, 0, 0, 0, 0, 0, 0], false⟩ .atEnd = some .length) ∧
    ((withA (fun x => { x with rx := some ⟨List.replicate 1035 0, true⟩ }) up).port .a).rx = some ⟨List.replicate 1035 0, true⟩ ∧
    Arrives up .a ⟨.event, 1, 2, [0, 0, 0, 0]⟩ ∧ Kind.event.isDown = false := by
  refine ⟨by decide, by decide +kernel, by decide +kernel, up_arrives _ _, rfl⟩

/-- The three clauses at the default thresholds, H = 16 and L = 2: B is 16, 2 and 3. -/
theorem witness_QualityWindowEnds :
    let s (bad : Nat) : State := withA (fun x => { x with windowCount := 4096, windowBad := bad }) up
    ((s 16).resetLine = false ∧ ((s 16).port .a).link = .up ∧ 4096 ≤ ((s 16).port .a).windowCount) ∧
      (s 16).node.qualityHigh ≤ ((s 16).port .a).windowBad ∧
      (((s 2).port .a).windowBad < (s 2).node.qualityHigh ∧ ((s 2).port .a).windowBad ≤ (s 2).node.qualityLow) ∧
      ((s 3).port .a).windowBad < (s 3).node.qualityHigh ∧ (s 3).node.qualityLow < ((s 3).port .a).windowBad := by decide

theorem capped_of_zero {s : State} (h : s.counters = Vector.replicate 76 0) : CountersCapped s := by
  intro c; unfold State.counter; rw [h]; cases c <;> decide

/-- Loss of lock of Port A in the middle of a cell, with an EVENT cell in flight; and of Port B with a cell in its queue. -/
theorem witness_LossOfLock :
    let a : State := withA (fun x => { x with
      invalidRun := 3, rx := some ⟨[0x11], false⟩, tx := some ⟨⟨.event, 1, 2, [0, 0, 0, 0]⟩, .event⟩ }) up
    let b : State := { withB (fun x => { x with invalidRun := 3 }) up with portBQueue := [⟨.event, 1, 2, [0, 0, 0, 0]⟩] }
    (a.resetLine = false ∧ (a.port .a).link = .up ∧ (a.port .a).invalidRun = 3 ∧ CountersCapped a ∧ a.resetInFlight = false) ∧
      b.resetLine = false ∧ (b.port .b).link = .up ∧ (b.port .b).invalidRun = 3 ∧ CountersCapped b ∧ Port.b ≠ .a := by
  refine ⟨⟨rfl, rfl, rfl, capped_of_zero rfl, rfl⟩, rfl, rfl, rfl, capped_of_zero rfl, nofun⟩

/-- Bytes that are a cell's, and bytes that are not (one payload byte too few). -/
theorem witness_ValidIffBytesOfACell :
    firstFailure ⟨cellBytes ⟨.frameEnd, 1, 4095, [0, 0, 1, 0, 2]⟩, false⟩ .atEnd = none ∧
      firstFailure ⟨cellBytes ⟨.frameEnd, 1, 4095, [0, 0, 1, 0]⟩, false⟩ .atEnd = some .size := by decide +kernel

/-- A source cell, a request for this node and one for another. -/
theorem witness_EndedCellIsItsCommand :
    ((4094 : Addr) ≠ 4095 ∧ (Instr.frameEnd 1 2 ⟨3, 4, 5⟩).wellFormed = true ∧
      cellOfCommand 4094 (.frameEnd 1 2 ⟨3, 4, 5⟩) = some (.a, ⟨.frameEnd, 1, 2, [3, 0, 4, 0, 5]⟩)) ∧
    ((Instr.unknownRequest 11 (request 0 0 0 [])).wellFormed = true ∧
      (cellOfCommand 4094 (.unknownRequest 11 (request 0 0 0 []))).isSome = true) ∧
    (Instr.mgmtReqForwarded 1 4093 (List.replicate 8 0)).wellFormed = true ∧
      ∀ o l, Instr.mgmtReqForwarded 1 4093 (List.replicate 8 0) ≠ .mgmtReqForwarded o 4094 l := by
  refine ⟨by decide, by decide, by decide, ?_⟩
  intro o l h; injection h with _ h _; revert h; decide

/-! ### Witnesses: forwarding, the HID Uplink Queue and the arbiter -/

/-- Forwarding: an origin in the Forward Set alone, with room; without room; one in neither table; one that is taken. -/
theorem witness_CellsAreForwarded :
    let s : State := { slotIn 0 7 .live up with forwardSet := up.forwardSet.set 63 9 }
    let full : State := { s with portBQueue := List.replicate 32 ⟨.event, 1, 2, [0, 0, 0, 0]⟩ }
    let c (o : Addr) : Cell := ⟨.frameEnd, o, 0, frameEndPayload ⟨0, 0, 0⟩⟩
    let i (o : Addr) : Instr := .frameEnd o 0 ⟨0, 0, 0⟩
    (∀ o, (i o).wellFormed = true ∧ cellOfCommand s.node.address (i o) = some (.a, c o) ∧
      (c o).kind ∈ [Kind.tile, .frameEnd, .cursor, .srcStatus] ∧ Arrives s .a (c o) ∧ Arrives full .a (c o)) ∧
    ((¬∃ j, (s.src j).addr = some 9) ∧ s.forwardSet.get 63 = 9 ∧ s.portB.link = .up ∧ s.portBQueue.length < 32) ∧
    ((¬∃ j, (full.src j).addr = some 9) ∧ full.forwardSet.get 63 = 9 ∧ 32 ≤ full.portBQueue.length) ∧
    ((¬∃ j, (s.src j).addr = some 8) ∧ ¬∃ n, s.forwardSet.get n = 8) ∧ (s.src 0).addr = some 7 := by
  refine ⟨fun o => ⟨rfl, rfl, by simp, ⟨rfl, rfl, .inl rfl⟩, ⟨rfl, rfl, .inl rfl⟩⟩, ?_, ?_, ?_, ?_⟩ <;> decide +kernel

/-- A request for another node, with room and without; a cell from Port B, with room and without; Port B's begin. -/
theorem witness_CellsAreForwarded_queues :
    let e : Cell := ⟨.event, 1, 2, [0, 0, 0, 0]⟩
    let r : Cell := ⟨.mgmtReq, 1, 2, List.replicate 8 0⟩
    let fullB : State := { up with portBQueue := List.replicate 32 e }
    let fullUp : State := { up with uplinkQueue := List.replicate 16 e }
    let one : State := { up with portBQueue := [e] }
    (((2 : Addr) ≠ up.node.address ∧ (2 : Addr) ≠ 4095) ∧ Arrives up .a r ∧ Arrives fullB .a r ∧ 32 ≤ fullB.portBQueue.length) ∧
      (Arrives up .b e ∧ up.uplinkQueue.length < 16) ∧ (Arrives fullUp .b e ∧ 16 ≤ fullUp.uplinkQueue.length) ∧
      (one.resetLine = false ∧ one.portB.link = .up ∧ one.portB.tx = none ∧ one.portBQueue = [e]) ∧ up.portBQueue = [] := by
  refine ⟨⟨by decide, up_arrives _ _, ⟨rfl, rfl, .inl rfl⟩, by decide⟩, ⟨up_arrives _ _, by decide⟩,
    ⟨⟨rfl, rfl, .inl rfl⟩, by decide⟩, by decide, rfl⟩

/-- A keyboard entry of the slot in the middle of the queue, and none; a pointer entry of the slot that agrees and one that does not, with
23 and with 24 pointer entries queued. -/
theorem witness_HidEntriesMerge :
    let p : HidEntry := .pointer 2 0 1 1 0 0
    let q (n : Nat) : State := { up with hidQueue := List.replicate n (.pointer 3 0 1 1 0 0) ++ p :: [.key 2 0 []] }
    ((q 1).hidQueue = [.pointer 3 0 1 1 0 0, p] ++ .key 2 0 [] :: [] ∧
      ∀ e ∈ [HidEntry.pointer 3 0 1 1 0 0, p] ++ [], e.isKeyOf 2 = false) ∧
    (∀ e ∈ (q 1).hidQueue, e.isKeyOf 3 = false) ∧
    ((q 22).hidQueue = List.replicate 22 (.pointer 3 0 1 1 0 0) ++ p :: [.key 2 0 []] ∧
      (∀ e ∈ [HidEntry.key 2 0 []], e.isPointerOf 2 = false) ∧ (q 22).hidQueue.countP HidEntry.isPointer < 24) ∧
    24 ≤ (q 23).hidQueue.countP HidEntry.isPointer ∧ ∀ e ∈ (q 22).hidQueue, e.isPointerOf 4 = false := by decide +kernel

theorem up_law8 : Law8 up := by constructor <;> decide

/-- The choice of the arbiter: forwarded alone, own after forwarded, none; and the own order class by class. -/
theorem witness_ArbiterChooses :
    let e : Cell := ⟨.event, 1, 2, [0, 0, 0, 0]⟩
    let quiet : State := { up with eventPending := false }
    let fwd : State := { up with uplinkQueue := [e], lastServed := .own }
    let held : State := { up with lastEventBegan := some 0, now := 9999 }
    let ready : State := { held with now := 10000 }
    let refresh : State := grantImage 1 0 3 256 256 id { quiet with creation := 1 }
    let due : State := setSrc 5 { quiet.src 5 with due := true } quiet
    (quiet.resetLine = false ∧ quiet.portA.link = .up ∧ quiet.portA.tx = none ∧ quiet.uplinkQueue = [] ∧ quiet.ownPick = none) ∧
      (fwd.uplinkQueue = [e] ∧ fwd.lastServed = .own ∧ fwd.ownPick = some .event) ∧
      (up.ownPick = some .event ∧ up.uplinkQueue = []) ∧
      (held.ownPick = none ∧ ready.ownPick = some .event) ∧
      (refresh.image 3).map (·.entries) = some [⟨0, 256, none, 256, false, 0⟩] ∧
      (due.src 5).due = true ∧ ∀ j : Slot, j < 5 → (due.src j).due = false := by decide +kernel

/-- A cell of each own class stands first. -/
theorem witness_OwnCellLeavesItsClass :
    let quiet : State := { up with eventPending := false }
    let key : State := { up with hidQueue := [.key 2 1 [4]] }
    let ptr : State := { up with hidQueue := [.pointer 2 3 32767 0 31 (-127)] }
    let rsp : State := { up with responses := [⟨1, .ok, [], 10, true⟩], fences := [⟨2, 10, 0⟩] }
    let refresh : State := grantImage 1 0 3 256 256 id { quiet with creation := 1 }
    let due : State := setSrc 5 { quiet.src 5 with due := true } quiet
    (key.resetLine = false ∧ key.portA.link = .up ∧ key.portA.tx = none ∧ key.ownPick = some (.hid (.key 2 1 [4])) ∧
      key.uplinkQueue = []) ∧
      ptr.ownPick = some (.hid (.pointer 2 3 32767 0 31 (-127))) ∧ rsp.ownPick = some (.response ⟨1, .ok, [], 10, true⟩) ∧
      up.ownPick = some .event ∧
      (refresh.ownPick = some (.refresh 3 ⟨0, 256, none, 256, false, 0⟩) ∧
        refresh.image 3 = some (freshTracking 1 0 256 256 0)) ∧
      due.ownPick = some (.deskStatus 5) := by decide +kernel

/-- R11: an EVENT cell, of fifteen bytes, between its delimiters, and idle groups after it. -/
theorem test_cell_is_sent :
    let s : State := withA (fun x => { x with tx := some ⟨⟨.event, 1, 2, [0, 0, 0, 0]⟩, .event⟩ }) up
    s.sentGroup .a 0 = some .startDelim ∧ s.sentGroup .a 1 = some (.data 0x22) ∧ s.sentGroup .a 16 = some .endDelim ∧
      s.sentGroup .a 17 = some .idle ∧ s.sentGroup .b 0 = some .idle ∧ (asserted s).sentGroup .a 0 = none := by decide +kernel

theorem witness_TransmissionsComplete :
    let f : InFlight := ⟨⟨.event, 1, 2, [0, 0, 0, 0]⟩, .event⟩
    let a : State := withA (fun x => { x with tx := some f }) up
    let b : State := withB (fun x => { x with tx := some f }) up
    let e : State := { up with lastEventBegan := some 5 }
    (a.resetLine = false ∧ (a.port .a).tx = some f ∧ a.resetInFlight = false) ∧ (b.port .b).tx = some f ∧
      (e.resetLine = false ∧ e.lastEventBegan = some 5) ∧ up.portA.tx = none ∧ sizeFits f.cell.kind f.cell.payload = true ∧
      up.resetLine = false ∧ (up.port .b).link = .up ∧ (up.port .b).rx = none := by decide

/-- A due fence behind one that is not, with seven responses and with eight. -/
theorem witness_DueFencesAreAnswered :
    let s (n : Nat) : State := { up with fences := [⟨1, 10, 1⟩, ⟨2, 10, 0⟩], responses := List.replicate n ⟨0, .ok, [], 10, false⟩ }
    ((s 7).resetLine = false ∧ (s 7).fences = [⟨1, 10, 1⟩] ++ (⟨2, 10, 0⟩ : FenceEntry) :: [] ∧
      (∀ g ∈ [(⟨1, 10, 1⟩ : FenceEntry)], g.awaited ≠ 0) ∧ (s 7).responses.length < 8) ∧
      8 ≤ (s 8).responses.length ∧ ∀ g ∈ up.fences, g.awaited ≠ 0 := by decide

/-! ### Witnesses: tiles and frames -/

/-- Slot 0 LIVE with its screen 0, 256 by 256, in image slot 6, and its record as `f` makes it. -/
def tracked (f : Tracking → Tracking) : State := grantImage 0 0 6 256 256 f (slot0 .live)

/-- The record of `tracked`. -/
def record (f : Tracking → Tracking) : Tracking := f (freshTracking 0 0 256 256 0)

theorem tracked_admitted (f : Tracking → Tracking) : AdmittedScreen (tracked f) 0 0 6 (record f) :=
  ⟨0, ⟨256, 256, .admitted 6⟩, rfl, rfl, rfl, rfl, rfl⟩

theorem takes_slot0 (x : SrcState) (k : Kind) (d : Addr) (l : List Byte) : Takes (slot0 x) 0 ⟨k, 7, d, l⟩ := by
  have e : ∀ j : Slot, ((slot0 x).src j).addr = some 7 ↔ j = 0 := by cases x <;> decide +kernel
  exact ⟨⟨rfl, rfl, .inl rfl⟩, e⟩

/-- The slot LIVE, STALE, WAITING and LOST; a hotspot of 31 and of 32; a screen count of 0 and of 5. -/
theorem witness_TakenCellsAreHeard :
    (∀ x k d l, Takes (slot0 x) 0 ⟨k, 7, d, l⟩) ∧ (∀ x, ((slot0 x).src 0).state = x) ∧
      (31 : Byte).toNat ≤ 31 ∧ 31 < (32 : Byte).toNat ∧ 4 < (5 : Byte).toNat :=
  ⟨takes_slot0, fun _ => rfl, by decide, by decide, by decide⟩

/-- The last tile of the grid, covered by an entry of which it is the last tile awaited, by one of which it is not, and by none; its
previous stamp absent, behind the request frame, and at it. -/
theorem witness_SameFrameTileIsWritten :
    let g (n : Nat) : RefreshEntry := ⟨255, 1, some 4, n, false, 0⟩
    let f (n : Nat) (t : Tracking) : Tracking := { t with current := some 5, entries := [g n], stamps := [(255, 3)] }
    let cell : TileCell := ⟨0, 5, 15, 15, .fill Colour.black⟩
    AdmittedScreen (tracked (f 1)) 0 cell.screen 6 (record (f 1)) ∧ ImageMemoryWf (tracked (f 1)) ∧
      ((record (f 1)).width ≤ 3840 ∧ (record (f 1)).height ≤ 2160 ∧ cell.column.toNat < (record (f 1)).width / 16 ∧
        cell.row.toNat < (record (f 1)).height / 16 ∧ (record (f 1)).current = some cell.frame) ∧
      ((record (f 1)).entries = [] ++ g 1 :: [] ∧ (g 1).covers 255 = true ∧ storeGet (record (f 1)).stamps 255 = some 3 ∧
        (g 1).request = some 4 ∧ 1 ≤ ((4 : Frame) - 3).toNat ∧ (g 1).remaining ≤ 1) ∧
      1 < (g 2).remaining ∧ ¬1 ≤ ((4 : Frame) - 4).toNat ∧ (g 1).covers 254 = false :=
  ⟨tracked_admitted _, rfl, by decide +kernel, by decide +kernel, by decide, by decide, by decide⟩

/-- No admitted screen; the first column past the grid; the youngest late frame; a closed current frame. -/
theorem witness_DroppedCellsOnlyCount :
    let f (t : Tracking) : Tracking := { t with current := some 63, closed := true }
    (∀ x t, ¬AdmittedScreen (slot0 .live) 0 4 x t) ∧ AdmittedScreen (tracked f) 0 0 6 (record f) ∧
      (record f).width / 16 ≤ (16 : Byte).toNat ∧ 65472 ≤ ((65535 : Frame) - 63).toNat ∧
      (record f).current = some 63 ∧ (record f).closed = true := by
  refine ⟨?_, tracked_admitted _, by decide, by decide, rfl, rfl⟩
  rintro x t ⟨k, e, h, -⟩
  have : (4 : Nat) = k.val := h
  omega

/-- No current frame yet; one frame on, 64, 65, and the oldest jump; a FRAME_END with its count right and wrong. -/
theorem witness_FramesMoveAndAreJudged :
    let f (c : Option Frame) (t : Tracking) : Tracking := { t with current := c, received := 2 }
    (∀ c, AdmittedScreen (tracked (f c)) 0 0 6 (record (f c)) ∧ (record (f c)).current = c) ∧
      ((0 : Frame) - 65535).toNat = 1 ∧ ((63 : Frame) - 65535).toNat = 64 ∧ 65 ≤ ((64 : Frame) - 65535).toNat ∧
      ((65470 : Frame) - 65535).toNat ≤ 65471 ∧ (record (f (some 5))).closed = false ∧
      (record (f (some 5))).received = (2 : Word16).toNat ∧ (record (f (some 5))).received ≠ (3 : Word16).toNat :=
  ⟨fun _ => ⟨tracked_admitted _, rfl⟩, by decide, by decide, by decide, by decide, rfl, rfl, by decide⟩

theorem tracked_capped (f : Tracking → Tracking) : CountersCapped (tracked f) := capped_of_zero rfl

theorem witness_AdvanceTakesItsSteps :
    let f (t : Tracking) : Tracking := { t with current := some 5 }
    (tracked f).image 6 = some (record f) ∧ (record f).current = some 5 ∧ CountersCapped (tracked f) :=
  ⟨rfl, rfl, tracked_capped _⟩

/-- With a full-refresh entry; with every tile stamped C; with neither. -/
theorem witness_ExpiryRepairAndResynchronization :
    let f (l : List RefreshEntry) (n : Nat) (t : Tracking) : Tracking :=
      { t with width := 32, height := 16, current := some 5, entries := l, stamps := (List.range n).map fun k => (k, (5 : Frame)) }
    let awaited (t : Tracking) : Nat := (List.range (t.width / 16 * (t.height / 16))).countP fun j => storeGet t.stamps j != some 5
    (∀ l n, (tracked (f l n)).image 6 = some (record (f l n)) ∧ (record (f l n)).current = some 5 ∧
        CountersCapped (tracked (f l n))) ∧
      (∃ e ∈ (record (f [⟨0, 2, some 5, 1, false, 0⟩] 0)).entries, e.first = 0 ∧ e.count = 2) ∧
      awaited (record (f [] 2)) = 0 ∧
      ((∀ e ∈ (record (f [⟨0, 1, some 5, 1, false, 0⟩] 1)).entries, ¬(e.first = 0 ∧ e.count = 2)) ∧
        awaited (record (f [⟨0, 1, some 5, 1, false, 0⟩] 1)) ≠ 0) := by
  refine ⟨fun _ _ => ⟨rfl, rfl, tracked_capped _⟩, ⟨_, .head _, rfl, rfl⟩, by decide +kernel, by decide +kernel, by decide +kernel⟩

/-! ### Witnesses: the Refresh Scanner -/

/-- The least grid of two tiles, with the cursor on its last; the smallest screen's. -/
theorem witness_ScannerSteps :
    let f (t : Tracking) : Tracking := { t with current := some 5, cursor := 255 }
    let two : Tracking := { freshTracking 0 0 32 16 0 with cursor := 1 }
    ((tracked f).image 6 = some (record f) ∧ (record f).current = some 5 ∧ CountersCapped (tracked f)) ∧
      (2 ≤ (record f).tiles ∧ (record f).cursor < (record f).tiles) ∧ 2 ≤ two.tiles ∧ two.cursor < two.tiles :=
  ⟨⟨rfl, rfl, tracked_capped _⟩, by decide, by decide⟩

/-- Two tiles of which one is old and one is uncovered and absent; a run is found, and with a full list it is put off. -/
theorem witness_ScannerFindsOldTiles :
    let e (n : Nat) : RefreshEntry := ⟨n, 1, some 4, 1, false, 0⟩
    let t (l : List RefreshEntry) : Tracking := { freshTracking 0 0 256 256 0 with entries := l, stamps := [(0, 1)], cursor := 0 }
    (∀ l, 2 ≤ (t l).tiles ∧ (t l).cursor < (t l).tiles) ∧ (scanStep 60 60 1 (t []) 0).runs = 0 ∧
      (scanStep 60 59 1 (t []) 0).runs = 1 ∧ (scanStep 60 59 1 (t [e 9, e 10, e 11, e 12]) 0).deferred = 1 := by
  have h : 2 ≤ (record id).tiles ∧ 0 < (record id).tiles := by decide
  refine ⟨fun _ => h, ?_, ?_, ?_⟩ <;> decide +kernel

/-! ### Tests: a TILE beside an event that frees its image slot (R71) -/

/-- TILE of tile 0 of screen 0 in frame 5, from the source at address 7. -/
def tileOfSeven : Instr := .tile 7 0 ⟨0, 5, 1, 1, .fill Colour.black⟩

/-- R71, first bullet: the TILE is written, then the write to its slot's entry discards record and image slot. -/
theorem test_tile_before_the_write :
    let t := subscribe 0 none (after tileOfSeven (tracked id))
    t.counter .tsTiles = 1 ∧ t.image 6 = none := by decide +kernel

/-- R71, second bullet: after the 1000 ms expiry the TILE is counted in TS_TILE_NOT_ADMITTED. -/
theorem test_tile_after_the_expiry :
    let s := setSrc 0 { (tracked id).src 0 with state := .stale } (tracked id)
    let t := after tileOfSeven (after (.silenceExpiryLost 0) s)
    t.counter .tsTileNotAdmitted = 1 ∧ t.counter .tsTiles = 0 ∧ t.image 6 = none := by decide +kernel

/-- R71, second bullet: the address moves to slot 1, whose screen is not ADMITTED. -/
theorem test_tile_after_its_address_moved :
    let t := after tileOfSeven (subscribe 1 (some 7) (subscribe 0 none (tracked id)))
    t.counter .tsTileNotAdmitted = 1 ∧ t.counter .fwdUnwanted = 0 ∧ t.image 6 = none := by decide +kernel

/-! ### Witnesses: sources -/

/-- A screen count of 1 and of 4, for a WAITING slot and for a LIVE one. -/
theorem witness_StatusIsTaken :
    let x (n : Byte) : SrcStatusCell := ⟨n, 0, Vector.replicate 8 0, Vector.replicate 4 ⟨256, 256⟩⟩
    (∀ st n, Takes (slot0 st) 0 ⟨.srcStatus, 7, 0, srcStatusPayload (x n)⟩ ∧ CountersCapped (slot0 st)) ∧
      ((x 1).screenCount ≠ 0 ∧ (x 4).screenCount.toNat ≤ 4) ∧ ((slot0 .waiting).src 0).state ≠ .absent ∧
      ((slot0 .live).src 0).state ≠ .absent :=
  ⟨fun st n => ⟨takes_slot0 _ _ _ _, capped_of_zero rfl⟩, by decide, by decide, by decide⟩

theorem tracked_law2 : Law2 (tracked id) := by
  have e : ∀ i k, ((tracked id).entry i k).isSome = true → i = 0 ∧ k = 0 := by decide +kernel
  have g : ∀ x, ((tracked id).image x).isSome = true → x = 6 := by decide +kernel
  have d : ∀ i k, (tracked id).heard i = false → (tracked id).entry i k = none := by decide +kernel
  refine ⟨d, fun x t h => ?_, fun _ i k f x h ha => ?_⟩
  · obtain rfl := g x (by rw [h]; rfl)
    have q : some (record id) = some t := h
    injection q with q; subst q
    exact ⟨_, rfl, rfl⟩
  · obtain ⟨rfl, rfl⟩ := e i k (by rw [h]; rfl)
    have q : some (⟨256, 256, .admitted 6⟩ : ScreenEntry) = some f := h
    injection q with q; subst q
    injection ha with ha; subst ha
    exact ⟨record id, rfl, rfl, rfl⟩

/-- A declared size that is the same, one that differs, one that is bad (1080 is no multiple of 16), a count that leaves screens out. -/
theorem witness_ScreensAreAdmitted :
    let x : SrcStatusCell := ⟨3, 0, Vector.replicate 8 0, #v[⟨256, 256⟩, ⟨1920, 1080⟩, ⟨3840, 2160⟩, ⟨0, 0⟩]⟩
    (Law2 (tracked id) ∧ (tracked id).resetLine = false ∧ (tracked id).heard 0 = true) ∧
      (tracked id).entry 0 0 = some ⟨256, 256, .admitted 6⟩ ∧ x.screenCount.toNat ≤ (3 : SrcScreen).val ∧
      goodSize 1920 1080 = false ∧ goodSize 3840 2160 = true ∧ goodSize 256 256 = true :=
  ⟨⟨tracked_law2, rfl, rfl⟩, rfl, by decide, by decide, by decide, by decide⟩

/-- R49 to R51, R76: screen 0 changes its geometry before screen 1 is admitted, and each fresh start takes the next creation number. -/
theorem test_fresh_starts_in_order :
    let s : State := { tracked id with creation := 9 }
    let u := runAdmission 0 ⟨2, 0, Vector.replicate 8 0, #v[⟨512, 256⟩, ⟨256, 256⟩, ⟨0, 0⟩, ⟨0, 0⟩]⟩ s
    u.entry 0 0 = some ⟨512, 256, .admitted 6⟩ ∧ u.entry 0 1 = some ⟨256, 256, .admitted 0⟩ ∧ u.creation = 11 ∧
      (u.image 6).map (fun t => t.entries.map RefreshEntry.creation) = some [9] ∧
      (u.image 0).map (fun t => t.entries.map RefreshEntry.creation) = some [10] := by decide +kernel

theorem witness_SourceTimersExpire :
    ((slot0 .live).resetLine = false ∧ ((slot0 .live).src 0).state = .live ∧ ((slot0 .live).src 0).silenceTimer = some 0 ∧
      ((slot0 .live).src 0).statusTimer = some 0) ∧
    let s : State := setSrc 0 { (tracked id).src 0 with state := .stale } (tracked id)
    s.resetLine = false ∧ CountersCapped s ∧ (s.src 0).state = .stale ∧ (s.src 0).silenceTimer = some 0 :=
  ⟨by decide, rfl, capped_of_zero rfl, rfl, rfl⟩

/-- Law 2 for the STALE slot of the witness above. -/
theorem witness_SourceTimersExpire_law2 : Law2 (setSrc 0 { (tracked id).src 0 with state := .stale } (tracked id)) := by
  obtain ⟨a, b, c⟩ := tracked_law2
  have e : ∀ i k, State.entry (setSrc 0 { (tracked id).src 0 with state := .stale } (tracked id)) i k = (tracked id).entry i k := by
    decide +kernel
  have g : ∀ i, State.heard (setSrc 0 { (tracked id).src 0 with state := .stale } (tracked id)) i = (tracked id).heard i := by
    decide +kernel
  refine ⟨fun i k h => ?_, fun x t h => ?_, fun h i k f x hf => ?_⟩
  · rw [e]; exact a i k (by rw [← g]; exact h)
  · obtain ⟨f, h1, h2⟩ := b x t h; exact ⟨f, by rw [e]; exact h1, h2⟩
  · rw [e] at hf; exact c rfl i k f x hf

/-- The same address, an address for an ABSENT slot, another address for a LIVE slot. -/
theorem witness_SubscriptionChangesTearDown :
    (Law2 (tracked id) ∧ (tracked id).resetLine = false) ∧ ((tracked id).src 0).addr = some 7 ∧
      (((tracked id).src 1).addr = none ∧ some (9 : Addr) ≠ none) ∧ ((tracked id).src 0).addr ≠ some 9 :=
  ⟨⟨tracked_law2, rfl⟩, rfl, by decide, by decide⟩

/-! ### Witnesses: management requests -/

theorem up_law6 : Law6 up := ⟨fun _ => ⟨by decide, rfl⟩, fun _ h => (nomatch h), fun _ h => (nomatch h)⟩

theorem up_law10 : Law10 up := ⟨fun _ h => (nomatch h), by decide⟩

theorem up_settled : FencesSettled up := .inl fun _ h => (nomatch h)

theorem up_screens : ScreensInRange up := by unfold ScreensInRange ScreenSettings.inRange; decide

theorem up_writes {code : Byte} {t : Table} {r : Request} (h : r.table = code) (hr : inRange t r = true) (hd : dataFits t r = true) :
    WriteArrives up code t r := ⟨h, up_executes _ _, hr, hd⟩

/-- A reset awaited, and eight responses; the kind codes 0 and 11; the table codes 0 and 16; the last index and the one past it; an
answer of more than 1021 bytes; tables that take no GET_CLEAR or no PUT; data of a wrong length. -/
theorem witness_RequestsAreDroppedOrRefused :
    let waits : State := { up with resetPending := true }
    let full : State := { up with responses := List.replicate 8 ⟨0, .ok, [], 10, false⟩ }
    let long : State := { up with activeLists := Vector.replicate 4 (List.replicate 13 (region 1 0 0 16 16 none Colour.black)) }
    let r := request
    ((Instr.swap (r 0 1 0 [])).wellFormed = true ∧ requestKind (.swap (r 0 1 0 [])) = some (4, r 0 1 0 []) ∧
      Arrives waits .a (requestCell waits.node.address 4 (r 0 1 0 [])) ∧
      Arrives full .a (requestCell full.node.address 4 (r 0 1 0 [])) ∧ full.resetPending = false ∧ 8 ≤ full.responses.length) ∧
    (∀ k r, Executes up k r ∧ Executes long k r) ∧ FencesSettled up ∧ 10 < (11 : Byte).toNat ∧
    ((r 0 0 1 []).table = 0 ∧ 15 < (r 16 0 1 []).table.toNat) ∧
    (tableOfCode (r 2 8 0 []).table = some .subscribe ∧ ¬((r 2 8 0 []).index.toNat < 8 ∧ (8 : Nat) + 0 ≤ 8)) ∧
    (tableOfCode (r 2 7 2 []).table = some .subscribe ∧ ¬((7 : Nat) < 8 ∧ (r 2 7 2 []).index.toNat + (r 2 7 2 []).count.toNat ≤ 8)) ∧
    (tableOfCode (r 7 0 4 []).table = some .regionActive ∧ 1021 < (readEntries .regionActive (r 7 0 4 []) (accepted 1 (r 7 0 4 []) long)).length) ∧
    ((r 14 0 1 []).table ≠ 13 ∧ (r 14 0 1 []).table ≠ 15 ∧ ¬(r 13 76 0 []).index.toNat < 76 ∧ ¬(r 15 0 2 []).count.toNat ≤ 1) ∧
    ((r 7 0 0 []).table.toNat ∈ [7, 8, 11, 12, 13, 14, 15] ∧
      Table.deskHalf ∈ [Table.node, .subscribe, .forward, .screen, .layout, .hotkey, .deskHalf] ∧
      (r 10 7 1 [0]).data.length ≠ (r 10 7 1 [0]).count.toNat * Table.deskHalf.entryBytes) := by
  refine ⟨⟨by decide, rfl, ⟨rfl, rfl, .inl rfl⟩, ⟨rfl, rfl, .inl rfl⟩, rfl, by decide⟩,
    fun k r => ⟨up_executes _ _, ⟨rfl, rfl, .inl rfl⟩, rfl, by show 0 < 8; decide⟩, up_settled, by decide, by decide, by decide,
    by decide, by decide +kernel, by decide, by decide⟩

/-- A GET of all 76 counters; of the last SOURCE entry; a GET_CLEAR of the last counter and of no counter; RESET_CAUSE with count 1 and 0. -/
theorem witness_ReadsAnswer :
    (∀ k r, Executes up k r) ∧
    (tableOfCode (request 13 0 76 []).table = some .counters ∧ inRange .counters (request 13 0 76 []) = true ∧
      ((List.range 76).flatMap fun k => entryBytes .counters (accepted 1 (request 13 0 76 []) up) k).length ≤ 1021 ∧
      Table.counters ≠ .source) ∧
    ((request 11 7 1 []).table = 11 ∧ inRange .source (request 11 7 1 []) = true) ∧
    (inRange .counters (request 13 75 1 []) = true ∧ inRange .counters (request 13 75 0 []) = true) ∧
    ((request 15 0 1 []).table = 15 ∧ (request 15 0 1 []).index = 0 ∧ (request 15 0 1 []).count = 1 ∧ (request 15 0 0 []).count = 0) := by
  refine ⟨up_executes, ⟨rfl, rfl, by decide +kernel, by decide⟩, by decide, by decide, by decide⟩

/-- Values at the ends of their ranges. -/
theorem witness_EntriesHaveTheirLayout :
    (Table.node ≠ .regionPending ∧ Table.node ≠ .regionActive ∧ Table.node ≠ .preset) ∧
    (let n : NodeTable := { NodeTable.reset 4094 with qualityHigh := 255, qualityLow := 255, ageLimit := 4096, speed := 15 };
      1 ≤ n.qualityHigh ∧ n.qualityHigh ≤ 255 ∧ n.qualityLow ≤ n.qualityHigh ∧ 60 ≤ n.ageLimit ∧ n.ageLimit ≤ 4096 ∧ n.speed ≤ 15) ∧
    ScreenSettings.inRange ⟨true, 3840, 2160, 120, false, false, some 0⟩ ∧
    (let e : LayoutEntry := ⟨⟨some 3, 2160⟩, ⟨none, -2160⟩, ⟨none, 0⟩, ⟨none, 0⟩⟩;
      ∀ l ∈ [e.right, e.left, e.top, e.bottom], -2160 ≤ l.offset ∧ l.offset ≤ 2160) ∧
    hotkeyRefused [1, 5, 0xE8, 7, 9] = false ∧
    (let r : Region := region 1 65535 0 16 16 (some ⟨7, 3, 3839, 2159, -3⟩) Colour.black;
      (r.x < 65536 ∧ r.y < 65536 ∧ r.w < 65536 ∧ r.h < 65536) ∧
        ∀ p, r.source = some p → p.u0 ≤ 3839 ∧ p.v0 ≤ 2159 ∧ -3 ≤ p.z ∧ p.z ≤ 3) := by
  refine ⟨by decide, by decide, by unfold ScreenSettings.inRange; decide, by decide, by decide, by decide, ?_⟩
  intro p h; injection h with h; subst h; decide

/-- The last FORWARD entry, with the highest address an entry may hold. -/
theorem witness_PutsWriteTheirEntries_by_PUT :
    WriteArrives up 3 .forward (request 3 63 1 [0x0F, 0xFE]) ∧ (word16At [0x0F, 0xFE] 0).toNat ≤ 4094 :=
  ⟨up_writes rfl rfl rfl, by decide⟩

/-- No entry; another node address; the address held, with no field clamped, and with one clamped. -/
theorem witness_PutNodeWrites :
    let good : List Byte := [0x0F, 0xFE, 0, 16, 16, 0, 60, 15, 0, 9, 0, 0, 0]
    let low : List Byte := [0x0F, 0xFE, 0, 0, 2, 0, 59, 16, 0, 9, 0, 0, 0]
    (WriteArrives up 1 .node (request 1 0 0 []) ∧ (request 1 0 0 []).count = 0) ∧
    (WriteArrives up 1 .node (request 1 0 1 (0x0F :: 0xFF :: good.drop 2)) ∧
      word16At (0x0F :: 0xFF :: good.drop 2) 0 ≠ up.node.address.setWidth 16) ∧
    (WriteArrives up 1 .node (request 1 0 1 good) ∧ word16At good 0 = up.node.address.setWidth 16 ∧ nodeClamped good = false) ∧
    WriteArrives up 1 .node (request 1 0 1 low) ∧ nodeClamped low = true :=
  ⟨⟨up_writes rfl rfl rfl, rfl⟩, ⟨up_writes rfl rfl rfl, by decide⟩, ⟨up_writes rfl rfl rfl, by decide, by decide⟩,
    up_writes rfl rfl rfl, by decide⟩

/-- Address 4095; address 4094 in two slots; address 4094 in the last slot alone. -/
theorem witness_PutSubscribeWrites :
    WriteArrives up 2 .subscribe (request 2 7 1 [0x0F, 0xFF]) ∧ 4094 < (word16At [0x0F, 0xFF] 0).toNat ∧
    (WriteArrives up 2 .subscribe (request 2 6 2 [0x0F, 0xFE, 0x0F, 0xFE]) ∧
      hasDuplicate (subscribedAfter up (putEntries .subscribe (request 2 6 2 [0x0F, 0xFE, 0x0F, 0xFE]))) = true) ∧
    WriteArrives up 2 .subscribe (request 2 7 1 [0x0F, 0xFE]) ∧
      subscribeRefused up (putEntries .subscribe (request 2 7 1 [0x0F, 0xFE])) = none :=
  ⟨up_writes rfl rfl rfl, by decide, ⟨up_writes rfl rfl rfl, by decide⟩, up_writes rfl rfl rfl, by decide⟩

/-- FORWARD: 4095 and 4094. LAYOUT: neighbour 4, offset 2161, offset 2160. DESK_HALF: word 0 another and the one held. HOTKEY: key 0xE7,
action 8, PRESET with argument 8 and with 7. -/
theorem witness_PutsWriteTheirEntries :
    (WriteArrives up 3 .forward (request 3 63 1 [0x0F, 0xFF]) ∧ 4094 < (word16At [0x0F, 0xFF] 0).toNat ∧
      WriteArrives up 3 .forward (request 3 63 1 [0x0F, 0xFE]) ∧ (word16At [0x0F, 0xFE] 0).toNat ≤ 4094) ∧
    (let l (n : Byte) (a b : Byte) : List Byte := [n, a, b, 255, 0, 0, 255, 0, 0, 255, 0, 0];
      (∀ n a b, WriteArrives up 5 .layout (request 5 3 1 (l n a b))) ∧ layoutRefused (l 4 0 0) = true ∧
        (layoutRefused (l 3 0x08 0x71) = false ∧ layoutClamped (l 3 0x08 0x71) = true) ∧ layoutClamped (l 255 0x08 0x70) = false) ∧
    (let h (a b : Byte) : List Byte := a :: b :: List.replicate 14 1;
      (∀ a b, WriteArrives up 10 .deskHalf (request 10 7 1 (h a b))) ∧ word16At (h 0 0) 0 ≠ (up.src 7).deskHalf.get 0 ∧
        word16At (h 0x0F 0xFE) 0 = (up.src 7).deskHalf.get 0 ∧ word16At ([0x0F, 0xFE, 0, 0] ++ (h 0 0).drop 4) 2 = (up.src 7).deskHalf.get 1) ∧
    ((∀ k a g, WriteArrives up 9 .hotkey (request 9 15 1 [1, 0, k, a, g])) ∧ hotkeyRefused [1, 0, 0xE7, 1, 0] = true ∧
      hotkeyRefused [1, 0, 4, 8, 0] = true ∧ (hotkeyRefused [1, 0, 4, 1, 8] = false ∧ hotkeyClamped [1, 0, 4, 1, 8] = true) ∧
      hotkeyClamped [1, 0, 4, 1, 7] = false) :=
  ⟨⟨up_writes rfl rfl rfl, by decide, up_writes rfl rfl rfl, by decide⟩,
    ⟨fun _ _ _ => up_writes rfl rfl rfl, by decide, by decide, by decide⟩,
    ⟨fun _ _ => up_writes rfl rfl rfl, by decide, by decide, by decide⟩,
    ⟨fun _ _ _ => up_writes rfl rfl rfl, by decide, by decide, by decide, by decide⟩⟩

/-- `up` with screen 2 enabled, screen 0 too if `both`, and the pointer on screen 2. -/
def lit (both : Bool) : State :=
  let s := enable 2 1280 720 (if both then enable 0 1920 1080 up else up)
  { s with pointer := { s.pointer with screen := some 2, px := 1279, py := 719 } }

/-- The PUT that disables screen 2. -/
def disableTwo : Request := request 4 2 1 (List.replicate 8 0)

theorem lit_admits (both : Bool) :
    WriteArrives (lit both) 4 .screen disableTwo ∧ ScreensInRange (lit both) ∧ Law6 (lit both) ∧ Law10 (lit both) := by
  cases both <;> exact ⟨⟨rfl, ⟨⟨rfl, rfl, .inl rfl⟩, rfl, by decide⟩, rfl, rfl⟩, by unfold ScreensInRange ScreenSettings.inRange; decide,
    ⟨fun h => (nomatch h), fun d h => by
      obtain rfl : (2 : Desk) = d := by injection h
      decide, fun _ h => (nomatch h)⟩, ⟨fun _ h => (nomatch h), by decide⟩⟩

/-- The pointer screen disabled with another screen enabled and with none; a pointer screen with a new width; the pointer absent while a
screen is enabled. -/
theorem witness_PutScreenWrites_pointer :
    (∀ both, (WriteArrives (lit both) 4 .screen disableTwo ∧ ScreensInRange (lit both) ∧ Law6 (lit both) ∧ Law10 (lit both)) ∧
      (lit both).pointer.screen = some 2 ∧ ((after (.putScreen disableTwo) (lit both)).screen 2).enabled = false ∧
      ((after (.putScreen disableTwo) (lit both)).screen 0).enabled = both) ∧
      up.pointer.screen = none ∧ ((after (.putScreen (request 4 3 1 (List.replicate 8 1))) up).screen 3).enabled = true ∧
      (((lit true).screen 2).enabled = true ∧ ((lit true).screen 2).width ≠ max 1280 (min 3840 (256 * 8 + 0)) / 8 * 8) := by
  refine ⟨fun both => ⟨lit_admits both, ?_, ?_, ?_⟩, rfl, ?_, ?_, ?_⟩
  · cases both <;> rfl
  · cases both <;> decide +kernel
  · cases both <;> decide +kernel
  all_goals decide +kernel

/-- R140: the pointer screen 2 is disabled, and the pointer stands at the centre of screen 0. -/
theorem test_pointer_leaves_a_disabled_screen :
    let p := (after (.putScreen disableTwo) (lit true)).pointer
    (p.screen, p.px, p.py) = (some 0, 960, 540) := by decide +kernel

/-- A PUT of all four SCREEN entries and one of the last. -/
theorem witness_PutScreenWrites :
    (WriteArrives up 4 .screen (request 4 0 4 (List.replicate 32 1)) ∧ WriteArrives up 4 .screen (request 4 3 1 (List.replicate 8 0))) ∧
      ScreensInRange up ∧ Law6 up ∧ Law10 up :=
  ⟨⟨up_writes rfl rfl rfl, up_writes rfl rfl rfl⟩, up_screens, up_law6, up_law10⟩

/-- Index 4; 17 records; data of a wrong length; a record 15 wide; a record 16 wide with a scale of 3 and of 4. -/
theorem witness_PutRegionPendingWrites :
    let e (w z : Byte) : List Byte := [1, 0, 0, 0, 0, 0, w, 0, 16, 1, 7, 3, 0, 0, 0, 0, z, 1, 0, 0, 0]
    (∀ r, Executes up 2 r) ∧ 4 ≤ (request 6 4 0 []).index.toNat ∧ (request 6 3 0 []).index.toNat = (3 : Desk).val ∧
      16 < (request 6 0 17 []).count.toNat ∧
      ((request 6 0 16 []).count.toNat ≤ 16 ∧ (request 6 0 16 []).data.length ≠ 21 * (request 6 0 16 []).count.toNat) ∧
      (listFails (up.screen 0) [e 15 0] = true ∧ listFails (up.screen 0) [e 16 3, e 16 3] = true ∧ (e 16 3).length = 21) ∧
      (listFails (up.screen 0) [e 16 3] = false ∧ regionClamped (e 16 3) = false) ∧ regionClamped (e 16 4) = true := by
  refine ⟨fun _ => up_executes _ _, ?_, ?_, ?_, ?_, ?_, ?_, ?_⟩ <;> decide +kernel

/-! ### Witnesses: views, presets and fences -/

theorem witness_SwapsTakeEffect :
    let s : State := enable 3 1280 720 up
    s.resetLine = false ∧ (s.screen 3).enabled = true ∧ (s.screen 3).picture = some 0 := by decide

/-- The laws of `up`; PRESET_STORE and PRESET_LOAD with index 8 and 7; an absent preset and a present one. -/
theorem witness_SwapsAreRequested :
    let s : State := { up with presets := up.presets.set 7 (some up.activeLists) }
    (Law6 up ∧ Law10 up ∧ FencesSettled up ∧ CountersCapped up ∧ ∀ k r, Executes up k r) ∧
      (Law6 s ∧ Law10 s ∧ FencesSettled s ∧ Executes s 7 (request 0 7 0 []) ∧ s.presets.get 7 = some up.activeLists) ∧
      (7 < (request 0 8 0 []).index.toNat ∧ (request 0 7 0 []).index.toNat = (7 : Fin 8).val ∧ up.presets.get 7 = none) :=
  ⟨⟨up_law6, up_law10, up_settled, capped_of_zero rfl, up_executes⟩,
    ⟨up_law6, up_law10, up_settled, ⟨⟨rfl, rfl, .inl rfl⟩, rfl, by decide⟩, rfl⟩, by decide⟩

/-- FENCE with no swap pending, and with all four pending and three and four fences in the list. -/
theorem witness_RequestsWithoutTables :
    let s (n : Nat) : State := { up with swapPending := Vector.replicate 4 true, fences := List.replicate n ⟨0, 10, 1⟩ }
    (∀ k r, Executes up k r) ∧ (∀ n k r, Executes (s n) k r) ∧ (∀ d, up.swapWaits d = false) ∧
      (∀ d : Desk, (15 : BitVec 4).getLsbD d.val = (s 3).swapWaits d) ∧ (15 : BitVec 4) ≠ 0 ∧ (s 3).fences.length < 4 ∧
      4 ≤ (s 4).fences.length :=
  ⟨up_executes, fun _ _ _ => ⟨⟨rfl, rfl, .inl rfl⟩, rfl, by show 0 < 8; decide⟩, by decide, by decide, by decide, by decide, by decide⟩

/-! ### Witnesses: the pointer -/

/-- Desk screen 0 enabled at 1280 by 720 and shown in full by region 1, of slot 0's screen 0, with the pointer at (10, 10). -/
def desk : State := point 0 10 10 (setActive 0 [region 1 0 0 1280 720 (some ⟨0, 0, 0, 0, 0⟩) Colour.black] (enable 0 1280 720 (tracked id)))

/-- Slot 0 STALE, the focus and locked, the pointer on a routable region of slot 1 with its lamps on, as in the words of R183. -/
def handover : State :=
  let s := enable 0 1280 720 (grantImage 1 0 7 256 256 id (slotIn 1 9 .live (tracked id)))
  let s := setSrc 1 { s.src 1 with lamps := 3 } (setSrc 0 { s.src 0 with state := .stale, lamps := 1 } s)
  let s := setActive 0 [region 3 0 0 1280 720 (some ⟨1, 0, 0, 0, 0⟩) Colour.black] s
  point 0 10 10 (setLock true (focusChange (some 0) s))

/-- R183: the lamps go straight from the lost source's set to the new focus's. -/
theorem test_lost_focus_hands_over :
    let t := after (.silenceExpiryLost 0) handover
    handover.keyboard.lamps = 1 ∧ t.keyboard.focus = some 1 ∧ t.keyboard.lamps = 3 ∧ t.keyboard.lock = false := by decide +kernel

/-- R136: a teardown of a WAITING slot is reported too: the capture of slot 1 asks for the focus again, and the lock refuses it. -/
theorem test_waiting_teardown_is_reported :
    let s := setSrc 0 { (handover).src 0 with state := .waiting } handover
    let s := setActive 0 (region 4 0 0 100 100 (some ⟨0, 0, 0, 0, 0⟩) Colour.black :: s.active 0) s
    let s : State := { s with
      pointer := { s.pointer with target := some (0, 4), capture := some ⟨0, 3, 1, 0, 0, 0⟩ }, keyboard := { s.keyboard with focus := some 2 } }
    (subscribe 0 none s).counter .ksFocusHeld = s.counter .ksFocusHeld + 1 := by decide +kernel

/-- R154: a teardown of the focus slot hands the focus over too. -/
theorem test_torn_down_focus_hands_over :
    let t := subscribe 0 none handover
    t.keyboard.focus = some 1 ∧ t.keyboard.lamps = 3 ∧ (t.src 0).state = .absent := by decide +kernel

/-- The slot is the focus, and neither the target nor a capture is its. -/
theorem witness_SourceTimersExpire_focus :
    handover.resetLine = false ∧ (handover.src 0).state = .stale ∧ (handover.src 0).silenceTimer = some 0 ∧
      handover.steersTo 0 = false ∧ handover.keyboard.focus = some 0 ∧ (handover.src 0).addr ≠ none ∧
      (handover.src 0).state ∈ ([.live, .stale, .lost] : List SrcState) := by decide +kernel

/-- `desk` with button 1 held since it started a capture of region 1. -/
def dragging : State := after (.deskPointerReport 1 0 0 0) desk

theorem desk_capped : CountersCapped desk := by
  have e : desk.counters.toList.all (fun n => n ≤ counterTop) = true := by decide +kernel
  intro c
  have m : desk.counter c ∈ desk.counters.toList := by unfold State.counter; simp [Vector.get, Vector.toList]
  exact of_decide_eq_true (List.all_eq_true.1 e _ m)

/-- A value of 127 and of 128; a press over a routable target, one off it, no press; a held capture with no button. -/
theorem witness_PointerReports :
    (desk.resetLine = false ∧ CountersCapped desk) ∧ ((127 : Int) ≤ 127 ∧ ¬(128 : Int) ≤ 127) ∧
    (desk.pointer.capture = none ∧ desk.pointer.screen = some 0 ∧ desk.pointer.buttons = 0 ∧
      desk.routableTarget.map (fun q => (q.1.id, q.2.slot)) = some (1, 0) ∧ (1 : BitVec 5) &&& ~~~0 ≠ 0) ∧
    (up.pointer.screen = none ∧ up.pointer.capture = none ∧ CountersCapped up) ∧
    (dragging.pointer.capture.map (fun c => c.id) = some 1 ∧ dragging.pointer.buttons ≠ 0) := by
  refine ⟨⟨by decide +kernel, desk_capped⟩, by decide, by decide +kernel, ⟨rfl, rfl, capped_of_zero rfl⟩, by decide +kernel⟩

theorem desk_screens : ScreensInRange desk := by unfold ScreensInRange ScreenSettings.inRange; decide +kernel

/-- The residues and moves at their ends; the last column of the screen, with and without a way on; the capture's rectangle. -/
theorem witness_PointerMoves :
    let s (x y : Nat) (l : LayoutLink) : State := { enable 0 1280 720 up with
      pointer := { up.pointer with screen := some 0, px := x, py := y }, layout := Vector.replicate 4 ⟨l, l, l, l⟩ }
    let back : LayoutLink := ⟨some 0, 0⟩
    let off : LayoutLink := ⟨some 1, 0⟩
    ((15 : Nat) ≤ 15 ∧ (-15 : Int) ≤ -15 ∧ (127 : Int) ≤ 127) ∧
    (ScreensInRange desk ∧ desk.pointer.px < (desk.screen 0).width ∧ desk.pointer.py < (desk.screen 0).height ∧ (270 : Int) ≤ 270) ∧
    ((s 1279 719 back).pointer.px < ((s 1279 719 back).screen 0).width ∧
      (back.neighbour.filter fun n => ((s 1279 719 back).screen n).enabled) = some 0 ∧
      (off.neighbour.filter fun n => ((s 0 0 off).screen n).enabled) = none) ∧
    (desk.pointer.screen = some 0 ∧ desk.pointer.capture = none) ∧
    (dragging.pointer.screen = some 0 ∧ dragging.pointer.capture.isSome = true ∧
      (dragging.pointer.capture.bind fun c => dragging.regionById c.screen c.id).isSome = true) := by
  refine ⟨by decide, ⟨desk_screens, ?_⟩, ?_, ?_, ?_⟩ <;> decide +kernel

/-- No capture; a capture that is kept; one whose region has gone; a region under the pointer and none; the lock set. -/
theorem witness_Reevaluation :
    desk.pointer.capture = none ∧
    (dragging.pointer.capture.map fun c => (dragging.keptRegion c).isSome) = some true ∧
    ((setActive 0 [] dragging).pointer.capture.map fun c => ((setActive 0 [] dragging).keptRegion c).isSome) = some false ∧
    (desk.regionAt 0 10 10).isSome = true ∧ (up.pointer.screen = none ∧ up.keyboard.lock = false) ∧
    (setLock true up).keyboard.lock = true ∧
    (desk.heard 0 = true ∧ desk.inputSlot = some 0 ∧ desk.keyboard.focus = some 0) ∧
    (handover.inputSlot = some 1 ∧ handover.keyboard.focus = some 0 ∧ handover.keyboard.lock = true) := by decide +kernel

/-- A capture on a slot that is heard and on one that is not; the narrowest and the widest screen; an input region and none; a report
that requires an entry and one that does not. -/
theorem witness_PointerEntries :
    (desk.heard 0 = true ∧ desk.heard 1 = false) ∧ (0 < 1 ∧ (3840 : Nat) ≤ 3840) ∧ up.inputRegion.isNone = true ∧
      (desk.inputRegion.map fun q => (q.1.id, (desk.entry q.2.slot q.2.screen).map fun e => (e.width, e.height))) =
        some (1, some (256, 256)) ∧
      desk.pointer.px ≠ { desk.pointer with px := 11 }.px := by decide +kernel

/-! ### Witnesses: the keyboard -/

theorem witness_FocusChanges :
    desk.keyboard.focus = some 0 ∧ desk.keyboard.focus ≠ none ∧ desk.keyboard.focus ≠ some 1 ∧ CountersCapped desk ∧
      up.keyboard.focus = none :=
  ⟨by decide +kernel, by decide +kernel, by decide +kernel, desk_capped, rfl⟩

/-- A rollover report; a report with six new keys, of which none is a hotkey, with a focus and without; one whose first new key is a hotkey
that sets the lock. -/
theorem witness_KeysGoToTheFocus :
    desk.resetLine = false ∧ (1 : Byte) ∈ (#v[4, 1, 0, 0, 0, 0] : Vector Byte 6).toList ∧
      (1 : Byte) ∉ (#v[4, 5, 6, 7, 8, 9] : Vector Byte 6).toList ∧
      (∀ n : Fin 16, (desk.keyboard.hotkeys.get n).valid = false) ∧ desk.keyboard.focus = some 0 ∧ up.keyboard.focus = none ∧
      (let s : State := { desk with keyboard := { desk.keyboard with hotkeys := desk.keyboard.hotkeys.set 15 ⟨true, 0, 4, 3, 0⟩ } };
        ([4, 5, 6, 7, 8, 9].foldl takeKey s).keyboard.focus = some 0 ∧ ([4, 5, 6, 7, 8, 9].foldl takeKey s).keyboard.lock = true) := by
  decide +kernel

/-- Two entries that fit, the lower one taken; no entry that fits, with a focus and without; an absent preset and a present one; a candidate that is the focus, and one that is not;
the lock set, clear with a focus, clear without. -/
theorem witness_HotkeysAct :
    let h : Hotkey := ⟨true, 5, 4, 1, 7⟩
    let s : State := { up with
      keyboard := { up.keyboard with modifiers := 5, hotkeys := (up.keyboard.hotkeys.set 3 h).set 15 h }
      presets := up.presets.set 7 (some up.activeLists) }
    let v (s : State) : State := setHalfFlag 0 .viewing true s
    ((s.keyboard.hotkeys.get 3).valid = true ∧ (s.keyboard.hotkeys.get 3).key = 4 ∧
      (s.keyboard.hotkeys.get 3).modifiers = s.keyboard.modifiers ∧ ∀ m : Fin 16, m < 3 → (s.keyboard.hotkeys.get m).valid = false) ∧
    ((∀ n : Fin 16, (up.keyboard.hotkeys.get n).valid = false ∧ (desk.keyboard.hotkeys.get n).valid = false) ∧
      desk.keyboard.focus ≠ none ∧ 4 ∉ desk.keyboard.swallowed) ∧
    (h.action = 1 ∧ h.argument.toNat = (7 : Fin 8).val ∧ up.presets.get 7 = none ∧ s.presets.get 7 = some up.activeLists) ∧
    ((∀ i, ¬(up.heard i = true ∧ up.halfFlag i .viewing = true)) ∧
      ((v desk).heard 0 = true ∧ (v desk).halfFlag 0 .viewing = true ∧ (v desk).keyboard.focus = some 0) ∧
      ((v (slot0 .live)).heard 0 = true ∧ (v (slot0 .live)).halfFlag 0 .viewing = true ∧ (v (slot0 .live)).keyboard.focus = none)) ∧
    ((setLock true desk).keyboard.lock = true ∧ desk.keyboard.lock = false ∧ desk.keyboard.focus ≠ none ∧
      up.keyboard.lock = false ∧ up.keyboard.focus = none) := by decide +kernel

theorem witness_LampMessages :
    let sent : State := { up with lampMessage := some 0, lampSent := some 0 }
    (up.resetLine = false ∧ up.lampMessage = none ∧ up.lampSent ≠ some up.keyboard.lamps) ∧
      (sent.lampMessage ≠ none ∧ sent.lampSent = some sent.keyboard.lamps) ∧
      ({ sent with lampSent := some 1 }.lampSent ≠ some sent.keyboard.lamps) := by decide

/-! ### Witnesses: the picture -/

/-- The last pixel of a screen and the one past it; identification, blanking; a region of a STALE slot at its edge, of a LIVE one; no
region; a plain region; the arrow's last row; a cursor record, hidden and shown. -/
theorem witness_PixelsShow :
    let with' (f : ScreenSettings → ScreenSettings) : State := setScreen 0 (f (desk.screen 0)) desk
    let k (hidden : Bool) : CursorRecord := ⟨hidden, 31, 31, Colour.black, Colour.black, Vector.replicate 256 0⟩
    let shows (h : Bool) : State := setSrc 0 { desk.src 0 with cursor := some (k h) } desk
    (desk.resetLine = false ∧ (desk.screen 0).enabled = true ∧ 1279 < (desk.screen 0).width ∧ 719 < (desk.screen 0).height ∧
      ¬1280 < (desk.screen 0).width) ∧
    (((with' fun e => { e with identify := true }).screen 0).identify = true ∧ ((with' fun e => { e with blank := true }).screen 0).blank = true) ∧
    ((desk.active 0).map (fun r => (r.x, r.w, r.source.isSome)) = [(0, 1280, true)] ∧ (desk.admittedImage 0 0).isSome = true ∧
      ((setSrc 0 { desk.src 0 with state := .stale } desk).src 0).state = .stale ∧ (desk.src 0).state ≠ .stale) ∧
    (desk.pointer.screen = some 0 ∧ (desk.inputSlot.bind fun i => (desk.src i).cursor) = none ∧ 25 = desk.pointer.py + 15) ∧
    (((shows true).inputSlot.bind fun i => ((shows true).src i).cursor) = some (k true) ∧
      ((shows false).inputSlot.bind fun i => ((shows false).src i).cursor) = some (k false) ∧
      10 + (k false).hotX = desk.pointer.px + 31) ∧
    (1279 < (desk.screen 0).width ∧ 719 < (desk.screen 0).height ∧ 0 < (desk.screen 0).width ∧ 0 < (desk.screen 0).height ∧
      [desk][0 * (desk.screen 0).width + 0]? = some desk) := by decide +kernel

/-- R91: row by row from row 0, and within each row from x = 0. -/
theorem test_scan_order : scanOrder 3 2 = [(0, 0), (1, 0), (2, 0), (0, 1), (1, 1), (2, 1)] := by decide

/-! ### Witnesses: the laws at every step -/

/-- Slot 0 LIVE with an ADMITTED screen, and its status period about to expire. -/
def busy : State := { tracked id with pending := [.statusPeriodExpiry 0] }

theorem busy_steps : ∃ t, step busy = .next t := ⟨_, rfl⟩

theorem witness_StoresStayInForm : (Law1 busy ∧ QueuesBounded busy ∧ NodeInRange busy ∧ ImageMemoryWf busy) ∧ ∃ t, step busy = .next t := by
  refine ⟨⟨⟨?_, ?_, ?_⟩, ?_, ?_, rfl⟩, busy_steps⟩
  · unfold GoodList; decide +kernel
  · unfold GoodList; decide +kernel
  · have e : ∀ n, busy.presets.get n = none := by decide +kernel
    intro n p h; rw [e] at h; cases h
  · unfold QueuesBounded; decide +kernel
  · unfold NodeInRange; decide +kernel

theorem busy_sources : SourceTableWf busy := by
  have e : ∀ i a, (busy.src i).addr = some a → i = 0 ∧ a = 7 := by
    have d : ∀ i, (busy.src i).addr = if i = 0 then some 7 else none := by decide +kernel
    intro i a h; rw [d] at h; split at h
    · rename_i c; injection h with h; exact ⟨c, h.symm⟩
    · cases h
  refine ⟨by decide +kernel, fun i a h => ?_, fun i j a h k => ?_, by decide +kernel, by decide +kernel⟩
  · obtain ⟨-, rfl⟩ := e i a h; decide
  · rw [(e i a h).1, (e j a k).1]

theorem witness_SourceLawIsKept : (Law2 busy ∧ SourceTableWf busy) ∧ ∃ t, step busy = .next t := ⟨⟨tracked_law2, busy_sources⟩, busy_steps⟩

theorem witness_RefreshLawIsKept : Law3 busy ∧ ∃ t, step busy = .next t := by
  refine ⟨fun x t h => ?_, busy_steps⟩
  have g : ∀ x, (busy.image x).isSome = true → x = 6 := by decide +kernel
  obtain rfl := g x (by rw [h]; rfl)
  have q : some (record id) = some t := h
  injection q with q; subst q
  refine ⟨by decide, by decide, by decide, List.pairwise_singleton _ _, fun e he => ?_⟩
  obtain rfl : e = ⟨0, 256, none, 256, false, 0⟩ := List.mem_singleton.1 he
  decide

/-- Tile 3 stamped as old as the bound admits: 30,000 frames and 7 more, since no more than 61 examinations come before its next one. -/
def aged (t : Tracking) : Tracking := { t with current := some 30007, stamps := [(3, 0)], entries := [], cursor := 64, dir := .down }

def agedBusy : State := { tracked aged with pending := [.statusPeriodExpiry 0] }

theorem witness_StampAgeLawIsKept : (Law3 agedBusy ∧ StampsAge agedBusy) ∧ ∃ t, step agedBusy = .next t := by
  have g : ∀ x, (agedBusy.image x).isSome = true → x = 6 := by decide +kernel
  have r : ∀ x t, agedBusy.image x = some t → t = record aged := fun x t h => by
    obtain rfl := g x (by rw [h]; rfl)
    have q : some (record aged) = some t := h
    injection q with q; exact q.symm
  refine ⟨⟨fun x t h => ?_, fun x t h => ?_⟩, _, rfl⟩ <;> obtain rfl := r x t h
  · exact ⟨by decide, by decide, by decide, List.Pairwise.nil, fun e he => nomatch he⟩
  · refine ⟨by decide, fun j p hj => ?_⟩
    have q : (if j = 3 then some (0 : Frame) else none) = some p := hj
    split at q
    · rename_i e; subst e; injection q with q; subst q; exact ⟨by decide, _, rfl, by decide⟩
    · cases q

/-- A queued pointer entry at the largest coordinate, and a capture that would repeat it. -/
theorem witness_HidLawsAreKept :
    let s : State := { up with
      hidQueue := [.pointer 0 0 32767 32767 1 0], pointer := { up.pointer with capture := some ⟨0, 1, 0, 0, 32767, 32767⟩ } }
    (Law5 s ∧ Law8 s) ∧ ∃ t, step s = .next t := by
  refine ⟨⟨⟨fun i k ax ay b w h => ?_, fun c h => ?_⟩, by constructor <;> decide⟩, _, rfl⟩
  · have := List.mem_singleton.1 h; injection this; subst_vars; decide
  · injection h with h; subst h; decide

theorem witness_PointerLawIsKept :
    (Law1 up ∧ ScreensInRange up ∧ SourceTableWf up ∧ Law6 up ∧ SteeringWf up ∧ SteeringSettled up) ∧ ∃ t, step up = .next t := by
  have a : ∀ i, (up.src i).addr = none := by decide +kernel
  refine ⟨⟨⟨?_, ?_, ?_⟩, up_screens, ⟨by decide +kernel, ?_, ?_, by decide +kernel, by decide +kernel⟩, up_law6,
    by unfold SteeringWf; decide, rfl, ?_, ?_, fun _ h => (nomatch h)⟩, _, rfl⟩
  · unfold GoodList; decide +kernel
  · unfold GoodList; decide +kernel
  · have e : ∀ n, up.presets.get n = none := by decide +kernel
    intro n p h; rw [e] at h; cases h
  · intro i b h; rw [a] at h; cases h
  · intro i j b h; rw [a] at h; cases h
  · have f : ∀ i, up.halfFlag i .pointer = false := by decide +kernel
    intro i; rw [f]; exact ⟨fun h => (nomatch h), fun ⟨_, h, _⟩ => (nomatch h)⟩
  · have f : ∀ i, up.halfFlag i .capture = false := by decide +kernel
    intro i; rw [f]; exact ⟨fun h => (nomatch h), fun ⟨_, h, _⟩ => (nomatch h)⟩

/-- The focus on slot 0, with the lock set, one key forwarded and one swallowed. -/
def typing : State :=
  setHalfFlag 0 .focus true { busy with keyboard :=
    { busy.keyboard with keys := [4, 5], forwarded := [4], swallowed := [5], focus := some 0, lock := true } }

theorem witness_KeyboardLawsAreKept :
    (SourceTableWf typing ∧ Law7 typing ∧ Law11 typing ∧ FocusWf typing) ∧ ∃ t, step typing = .next t := by
  have k : ∀ i, (typing.src i).addr = (busy.src i).addr ∧ (typing.src i).state = (busy.src i).state ∧
      (typing.src i).silenceTimer = (busy.src i).silenceTimer ∧ (typing.src i).statusTimer = (busy.src i).statusTimer ∧
      typing.heard i = busy.heard i := by decide +kernel
  obtain ⟨h1, h2, h3, h4, h5⟩ := busy_sources
  refine ⟨⟨⟨fun i => ?_, fun i a => ?_, fun i j a => ?_, fun i => ?_, by decide +kernel⟩, by unfold Law7; decide +kernel,
    by unfold Law11; decide +kernel, ?_, by decide +kernel, by decide +kernel⟩, _, rfl⟩
  · rw [(k i).1, (k i).2.1]; exact h1 i
  · rw [(k i).1]; exact h2 i a
  · rw [(k i).1, (k j).1]; exact h3 i j a
  · rw [(k i).2.2.1, (k i).2.2.2.1, (k i).2.2.2.2]; exact h4 i
  · decide +kernel

/-- A begin of an EVENT cell as the holdoff ends. -/
theorem witness_EventsKeepTheHoldoff :
    let s : State := { up with lastEventBegan := some 0, now := 10000, pending := [.portABegin] }
    (∃ t, step s = .next t ∧ t.lastEventBegan = some 10000 ∧ t.portA.tx.map InFlight.source = some .event) ∧
      s.portA.tx.map InFlight.source ≠ some .event ∧ ∀ straps, s.pending.head? ≠ some (.powerOn straps) :=
  ⟨⟨_, rfl, rfl, rfl⟩, by decide, fun _ h => (nomatch h)⟩

/-- A swap pending on an enabled screen, and a fence that awaits it. -/
theorem witness_FenceLawIsKept :
    let s : State := { setSwapWaits 3 true (enable 3 1280 720 up) with fences := [⟨1, 10, 8⟩] }
    (Law10 s ∧ (s.resetLine = false → FencesSettled s) ∧ DeskHalvesWf s) ∧ ∃ t, step s = .next t := by
  refine ⟨⟨⟨fun f h => ?_, by decide +kernel⟩, fun _ => .inl fun f h => ?_, fun i => ?_⟩, _, rfl⟩
  · obtain rfl := List.mem_singleton.1 h; decide +kernel
  · obtain rfl := List.mem_singleton.1 h; decide
  · have f : ∀ i, State.halfFlag up i .viewing = false ∧ (up.src i).deskHalf.get 0 = up.node.address.setWidth 16 := by decide +kernel
    have a : ∀ d, up.active d = [] := by decide +kernel
    refine ⟨(f i).2, fun h => ?_, fun ⟨d, r, p, h, _⟩ => ?_⟩
    · exact absurd ((f i).1.symm.trans h) Bool.false_ne_true
    · have : r ∈ up.active d := h
      rw [a] at this; cases this

theorem witness_CountersNeverFall :
    CountersCapped up ∧ (∃ t, step { up with pending := [.portABegin] } = .next t) ∧ mayClearCounters .portABegin up = false :=
  ⟨capped_of_zero rfl, ⟨_, rfl⟩, rfl⟩

end Sys2Proof.Tests
end

section
/-!
PROOFS. The event flags (R176) and the end of a quality window (R10), O8: what `setFlag` sets and leaves alone, what `endWindow`
does to its port, to the flags and to the rest of the state, and the statement put together from these.
-/

namespace Sys2Proof.Machine

/-! ### The event flags -/

theorem Flag.bit_lt (f : Flag) : f.bit < 16 := by cases f <;> decide

theorem Flag.bit_injective : Function.Injective Flag.bit :=
  Function.LeftInverse.injective (g := Flag.ofNat) fun f => by cases f <;> rfl

theorem Flag.getLsbD_mask (f g : Flag) : f.mask.getLsbD g.bit = (g == f) := by
  simp [Flag.mask, Flag.bit_lt, Flag.bit_injective.eq_iff, Bool.beq_eq_decide_eq]

theorem flagged_setFlag (f g : Flag) (s : State) : (setFlag f s).flagged g = (s.flagged g || g == f) := by
  unfold setFlag
  by_cases set : s.flagged f = true
  · rw [if_pos set]
    by_cases same : g = f
    · rw [same, set, Bool.true_or]
    · rw [beq_false_of_ne same, Bool.or_false]
  · rw [if_neg set]
    unfold State.flagged
    rw [BitVec.getLsbD_or, Flag.getLsbD_mask]

theorem eventPending_setFlag (f : Flag) (s : State) :
    (setFlag f s).eventPending = (s.eventPending || (!s.flagged f && s.node.enable.getLsbD f.bit)) := by
  unfold setFlag
  by_cases set : s.flagged f = true
  · rw [if_pos set, set, Bool.not_true, Bool.false_and, Bool.or_false]
  · rw [if_neg set, eq_false_of_ne_true set, Bool.not_false, Bool.true_and]

/-- Setting a flag reaches only the flag set and the pending EVENT cell. -/
theorem setFlag_frame (f : Flag) (s : State) :
    setFlag f s = { s with events := (setFlag f s).events, eventPending := (setFlag f s).eventPending } := by
  unfold setFlag; split <;> rfl

theorem flagged_nil (s : State) : Flagged [] s s :=
  ⟨fun f => (Bool.or_false (s.flagged f)).symm, (Bool.or_false s.eventPending).symm⟩

theorem flagged_singleton_setFlag (f : Flag) (s : State) : Flagged [f] s (setFlag f s) := by
  refine ⟨fun g => ?_, ?_⟩
  · rw [flagged_setFlag, List.contains_cons, List.contains_nil, Bool.or_false]
  · rw [eventPending_setFlag, List.any_cons, List.any_nil, Bool.or_false]

/-- A change of a port beforehand is no part of which flags were set. -/
theorem Flagged.of_setPort {l : List Flag} {p : Port} {x : PortState} {s t : State} (h : Flagged l (setPort p x s) t) :
    Flagged l s t := by
  cases p <;> exact h

theorem port_setFlag (f : Flag) (s : State) (p : Port) : (setFlag f s).port p = s.port p := by
  cases p
  · exact setFlag_portA f s
  · exact setFlag_portB f s

/-! ### The quality of a window (R10) -/

theorem nextQuality_of_high_le {high bad : Nat} (h : high ≤ bad) (low : Nat) (q : Quality) :
    nextQuality high low bad q = .degraded := if_pos h

theorem nextQuality_of_le_low {high low bad : Nat} (h : bad < high) (l : bad ≤ low) (q : Quality) :
    nextQuality high low bad q = .good := by
  rw [nextQuality, if_neg (Nat.not_le.2 h), if_pos l]

theorem nextQuality_of_between {high low bad : Nat} (h : bad < high) (l : low < bad) (q : Quality) :
    nextQuality high low bad q = q := by
  rw [nextQuality, if_neg (Nat.not_le.2 h), if_neg (Nat.not_le.2 l)]

/-- The quality of a port after a window that ends now. -/
def qualityAtEnd (p : Port) (s : State) : Quality :=
  nextQuality s.node.qualityHigh s.node.qualityLow (s.port p).windowBad (s.port p).quality

/-! ### The end of a window (R10) -/

/-- The port as the window's end leaves it, before any flag is set. -/
def closeWindow (p : Port) (s : State) : State :=
  setPort p { s.port p with quality := qualityAtEnd p s, windowCount := 0, windowBad := 0 } s

theorem endWindow_eq (p : Port) (s : State) :
    endWindow p s =
      if (s.port p).quality = .good ∧ qualityAtEnd p s = .degraded then setFlag (degradedFlag p) (closeWindow p s)
      else closeWindow p s := rfl

theorem endWindow_port (p : Port) (s : State) :
    (endWindow p s).port p = { s.port p with quality := qualityAtEnd p s, windowCount := 0, windowBad := 0 } := by
  rw [endWindow_eq]
  split
  · rw [port_setFlag]; exact port_setPort p _ s
  · exact port_setPort p _ s

theorem endWindow_node (p : Port) (s : State) : (endWindow p s).node = s.node := by
  rw [endWindow_eq]
  split
  · rw [setFlag_node]; exact setPort_node p _ s
  · exact setPort_node p _ s

theorem endWindow_flagged (p : Port) (s : State) :
    Flagged (if (s.port p).quality = .good ∧ qualityAtEnd p s = .degraded then [degradedFlag p] else []) s
      (endWindow p s) := by
  rw [endWindow_eq]
  split
  · exact (flagged_singleton_setFlag _ (closeWindow p s)).of_setPort
  · exact (flagged_nil (closeWindow p s)).of_setPort

theorem endWindow_frame (p : Port) (s : State) :
    endWindow p s = { closeWindow p s with
      events := (endWindow p s).events, eventPending := (endWindow p s).eventPending } := by
  rw [endWindow_eq]
  split
  · exact setFlag_frame _ _
  · rfl

theorem effectiveAgeLimit_eq (s : State) :
    s.effectiveAgeLimit = if (s.port .a).quality = .degraded then s.node.ageLimit / 4 else s.node.ageLimit := by
  unfold State.effectiveAgeLimit State.port
  cases s.portA.quality <;> rfl

theorem exec_qualityWindowEnd {s : State} {p : Port} (run : s.resetLine = false) (up : (s.port p).link = .up)
    (full : 4096 ≤ (s.port p).windowCount) : exec (.qualityWindowEnd p) s = .next (endWindow p s) := by
  have ready : ((s.port p).link == .up && windowLength ≤ (s.port p).windowCount) = true := by
    rw [up, decide_eq_true (p := windowLength ≤ _) full]; rfl
  change Host.Outcome.next (whenRunning (onlyIf _ (endWindow p)) s) = _
  rw [whenRunning, run, onlyIf, ready]; rfl

/-- Settles O8: the next state is `endWindow p s`, and each clause is one of its lemmas. -/
theorem qualityWindowEnds : Obligations.QualityWindowEnds := by
  intro s p run up full
  have quality : ((endWindow p s).port p).quality = qualityAtEnd p s := by rw [endWindow_port]
  refine ⟨endWindow p s, exec_qualityWindowEnd run up full, ?degraded, ?good, ?kept, ?port, ?flag, ?frame, ?age⟩
  case degraded => exact fun high => quality.trans (nextQuality_of_high_le high _ _)
  case good => exact fun high low => quality.trans (nextQuality_of_le_low high low _)
  case kept => exact fun high low => quality.trans (nextQuality_of_between high low _)
  case port => rw [quality]; exact endWindow_port p s
  case flag => rw [quality]; exact endWindow_flagged p s
  case frame => rw [endWindow_port]; exact endWindow_frame p s
  case age => rintro rfl; rw [effectiveAgeLimit_eq, endWindow_node]

end Sys2Proof.Machine
end

section
/-!
PROOFS. What a keyboard or a pointer entry does to the HID Uplink Queue (R28, R29): the queue is taken apart at the entry that the new
one replaces or merges into, and the room at its tail is counted slot by slot (Law 8).
-/

namespace Sys2Proof.Machine

/-! ### Whether a queue holds an entry of a kind -/

theorem any_of_middle {p : HidEntry → Bool} (pre post : List HidEntry) {e : HidEntry} (h : p e = true) :
    (pre ++ e :: post).any p = true :=
  List.any_eq_true.2 ⟨e, List.mem_append_right pre List.mem_cons_self, h⟩

theorem not_any_of_forall_false {p : HidEntry → Bool} {l : List HidEntry} (h : ∀ e ∈ l, p e = false) : ¬ l.any p = true :=
  fun any => have ⟨e, he, own⟩ := List.any_eq_true.1 any; Bool.eq_false_iff.1 (h e he) own

/-! ### Keyboard entries (R28) -/

@[simp] theorem isKeyOf_slot_key (i : Slot) (m : Byte) (keys : List Byte) : (HidEntry.key i m keys).isKeyOf i = true :=
  beq_self_eq_true i

theorem map_replaceKey_of_no_key {i : Slot} {l : List HidEntry} (h : ∀ e ∈ l, e.isKeyOf i = false) (new : HidEntry) :
    (l.map fun e => if e.isKeyOf i then new else e) = l := by
  refine List.map_congr_left (g := id) (fun e he => ?_) |>.trans (List.map_id l)
  rw [h e he]; rfl

/-- R28: the queued entry keeps its place. -/
theorem giveKey_of_queued {i : Slot} {s : State} {pre post : List HidEntry} {m' : Byte} {keys' : List Byte}
    (queued : s.hidQueue = pre ++ .key i m' keys' :: post) (only : ∀ e ∈ pre ++ post, e.isKeyOf i = false)
    (m : Byte) (keys : List Byte) :
    giveKey i m keys s = bump .hidKeyMerged { s with hidQueue := pre ++ .key i m keys :: post } := by
  obtain ⟨before, after⟩ := List.forall_mem_append.1 only
  have found : s.hidQueue.any (HidEntry.isKeyOf i) = true := by
    rw [queued]; exact any_of_middle pre post (isKeyOf_slot_key i m' keys')
  rw [giveKey, if_pos found, queued, List.map_append, List.map_cons, if_pos (isKeyOf_slot_key i m' keys'),
    map_replaceKey_of_no_key before, map_replaceKey_of_no_key after]

theorem giveKey_of_not_queued {i : Slot} {s : State} (absent : ∀ e ∈ s.hidQueue, e.isKeyOf i = false)
    (m : Byte) (keys : List Byte) :
    giveKey i m keys s = { s with hidQueue := s.hidQueue ++ [.key i m keys] } := by
  have unfound : ¬ s.hidQueue.any (HidEntry.isKeyOf i) = true := not_any_of_forall_false absent
  rw [giveKey, if_neg unfound]

/-! ### The room that Law 8 leaves at the tail (R27) -/

/-- The keyboard entries of a queue, counted slot by slot. -/
def keysOfSlots (slots : List Slot) (l : List HidEntry) : Nat := (slots.map fun i => l.countP (HidEntry.isKeyOf i)).sum

theorem keysOfSlots_cons_slot (i : Slot) (slots : List Slot) (l : List HidEntry) :
    keysOfSlots (i :: slots) l = l.countP (HidEntry.isKeyOf i) + keysOfSlots slots l := by
  simp only [keysOfSlots, List.map_cons, List.sum_cons]

theorem keysOfSlots_no_entries (slots : List Slot) : keysOfSlots slots [] = 0 := by
  induction slots with
  | nil => rfl
  | cons i slots ih => rw [keysOfSlots_cons_slot, ih, List.countP_nil]

theorem keysOfSlots_cons_key (slots : List Slot) (j : Slot) (m : Byte) (keys : List Byte) (l : List HidEntry) :
    keysOfSlots slots (.key j m keys :: l) = keysOfSlots slots l + slots.count j := by
  induction slots with
  | nil => rfl
  | cons i slots ih =>
    rw [keysOfSlots_cons_slot, keysOfSlots_cons_slot, ih, List.countP_cons, List.count_cons, HidEntry.isKeyOf]
    omega

theorem keysOfSlots_cons_pointer (slots : List Slot) (j : Slot) (k : SrcScreen) (ax ay : Nat) (b : BitVec 5) (w : Int)
    (l : List HidEntry) : keysOfSlots slots (.pointer j k ax ay b w :: l) = keysOfSlots slots l := by
  induction slots with
  | nil => rfl
  | cons i slots ih => rw [keysOfSlots_cons_slot, keysOfSlots_cons_slot, ih, List.countP_cons_of_neg Bool.false_ne_true]

theorem keysOfSlots_le_length {l : List HidEntry} (oneEach : ∀ i, l.countP (HidEntry.isKeyOf i) ≤ 1) (slots : List Slot) :
    keysOfSlots slots l ≤ slots.length := by
  induction slots with
  | nil => exact Nat.le_refl 0
  | cons i slots ih =>
    have one := oneEach i
    rw [keysOfSlots_cons_slot, List.length_cons]
    omega

theorem count_allSlots : ∀ j : Slot, allSlots.count j = 1 := by decide

/-- Every entry is the keyboard entry of one slot, or a pointer entry. -/
theorem length_eq_keys_add_pointers (l : List HidEntry) :
    l.length = keysOfSlots allSlots l + l.countP HidEntry.isPointer := by
  induction l with
  | nil => rw [keysOfSlots_no_entries]; rfl
  | cons e l ih =>
    cases e with
    | key j m keys =>
      rw [keysOfSlots_cons_key, count_allSlots, List.countP_cons_of_neg Bool.false_ne_true, List.length_cons]
      omega
    | pointer j k ax ay b w =>
      rw [keysOfSlots_cons_pointer, List.countP_cons_of_pos rfl, List.length_cons]
      omega

/-- At most one keyboard entry for each slot and 24 pointer entries are at most 32 entries. -/
theorem hidQueue_length_le_of_bounds {l : List HidEntry} (oneEach : ∀ i, l.countP (HidEntry.isKeyOf i) ≤ 1)
    (pointers : l.countP HidEntry.isPointer ≤ 24) : l.length ≤ 32 := by
  have keys : keysOfSlots allSlots l ≤ 8 := keysOfSlots_le_length oneEach allSlots
  have total := length_eq_keys_add_pointers l
  omega

/-- Law 8 leaves room for a keyboard entry of a slot that has none: the queue with it obeys the bounds of Law 8 still. -/
theorem Law8.room_for_key {s : State} (law : Law8 s) {i : Slot} (absent : ∀ e ∈ s.hidQueue, e.isKeyOf i = false) :
    s.hidQueue.length < 32 := by
  obtain ⟨oneEach, pointers⟩ := law
  have oneEach' : ∀ j, (HidEntry.key i 0 [] :: s.hidQueue).countP (HidEntry.isKeyOf j) ≤ 1 := by
    intro j
    by_cases same : j = i
    · subst same
      have unqueued : s.hidQueue.countP (HidEntry.isKeyOf j) = 0 :=
        List.countP_eq_zero.2 fun e he => Bool.eq_false_iff.1 (absent e he)
      exact Nat.le_of_eq (by rw [List.countP_cons_of_pos (isKeyOf_slot_key j 0 []), unqueued])
    · have other : ¬ (HidEntry.key i 0 []).isKeyOf j = true := fun own => same (eq_of_beq own)
      rw [List.countP_cons_of_neg other]
      exact oneEach j
  have pointers' : (HidEntry.key i 0 [] :: s.hidQueue).countP HidEntry.isPointer ≤ 24 := by
    rw [List.countP_cons_of_neg Bool.false_ne_true]
    exact pointers
  exact hidQueue_length_le_of_bounds oneEach' pointers'

/-! ### Pointer entries (R29) -/

@[simp] theorem isPointerOf_slot_pointer (i : Slot) (k : SrcScreen) (ax ay : Nat) (b : BitVec 5) (w : Int) :
    (HidEntry.pointer i k ax ay b w).isPointerOf i = true := beq_self_eq_true i

theorem mergeEntries_of_agree (i : Slot) (k : SrcScreen) (b : BitVec 5) (ax ay ax' ay' : Nat) (w w' : Int) :
    mergeEntries (.pointer i k ax' ay' b w') (.pointer i k ax ay b w) =
      some (.pointer i k ax ay b (clampInt (-127) 127 (w' + w))) :=
  if_pos ⟨rfl, rfl, rfl⟩

theorem mergeEntries_of_disagree {k k' : SrcScreen} {b b' : BitVec 5} (h : ¬(k' = k ∧ b' = b)) (i : Slot)
    (ax ay ax' ay' : Nat) (w w' : Int) :
    mergeEntries (.pointer i k' ax' ay' b' w') (.pointer i k ax ay b w) = none :=
  if_neg fun agree => h agree.2

theorem mergeEntries_of_not_pointerOf {e new : HidEntry} (h : e.isPointerOf new.slot = false) :
    mergeEntries e new = none := by
  cases e with
  | key => rfl
  | pointer j k ax ay b w =>
    cases new with
    | key => rfl
    | pointer i k' ax' ay' b' w' => exact if_neg fun agree => beq_eq_false_iff_ne.1 h agree.1.symm

/-- The newest pointer entry of the slot alone decides whether a merge happens, and a merge keeps its place. -/
theorem mergeNewest_of_newest {new e : HidEntry} {post : List HidEntry} (own : e.isPointerOf new.slot = true)
    (newest : ∀ x ∈ post, x.isPointerOf new.slot = false) (pre : List HidEntry) :
    mergeNewest new (pre ++ e :: post) = (mergeEntries e new).map fun x => pre ++ x :: post := by
  induction pre with
  | nil =>
    have unfound : ¬ post.any (HidEntry.isPointerOf new.slot) = true := not_any_of_forall_false newest
    exact if_neg unfound
  | cons x pre ih =>
    have found : (pre ++ e :: post).any (HidEntry.isPointerOf new.slot) = true := any_of_middle pre post own
    rw [List.cons_append, mergeNewest, if_pos found, ih, Option.map_map]; rfl

theorem mergeNewest_of_no_pointer {new : HidEntry} {l : List HidEntry} (absent : ∀ x ∈ l, x.isPointerOf new.slot = false) :
    mergeNewest new l = none := by
  cases l with
  | nil => rfl
  | cons x l =>
    obtain ⟨head, tail⟩ := List.forall_mem_cons.1 absent
    have unfound : ¬ l.any (HidEntry.isPointerOf new.slot) = true := not_any_of_forall_false tail
    rw [mergeNewest, if_neg unfound, mergeEntries_of_not_pointerOf head]; rfl

section
variable {i : Slot} {k : SrcScreen} {ax ay : Nat} {b : BitVec 5} {w : Int} {s : State}

theorem givePointer_of_merge {q : List HidEntry} (merge : mergeNewest (.pointer i k ax ay b w) s.hidQueue = some q) :
    givePointer i k ax ay b w s = bump .hidPtrMerged { s with hidQueue := q } := by
  simp only [givePointer, merge]

theorem givePointer_of_room (unmerged : mergeNewest (.pointer i k ax ay b w) s.hidQueue = none)
    (room : s.hidQueue.countP HidEntry.isPointer < 24) :
    givePointer i k ax ay b w s = { s with hidQueue := s.hidQueue ++ [.pointer i k ax ay b w] } := by
  simp only [givePointer, unmerged, if_pos room]

theorem givePointer_of_full (unmerged : mergeNewest (.pointer i k ax ay b w) s.hidQueue = none)
    (full : 24 ≤ s.hidQueue.countP HidEntry.isPointer) :
    givePointer i k ax ay b w s = setFlag .hidOverflow (bump .hidDrop s) := by
  simp only [givePointer, unmerged, if_neg (Nat.not_lt.2 full)]

/-- R29: an entry that does not merge joins the tail, or is dropped with its counter and its flag. -/
theorem givePointer_joins_or_drops (unmerged : mergeNewest (.pointer i k ax ay b w) s.hidQueue = none) :
    (s.hidQueue.countP HidEntry.isPointer < 24 →
      givePointer i k ax ay b w s = { s with hidQueue := s.hidQueue ++ [.pointer i k ax ay b w] }) ∧
    (24 ≤ s.hidQueue.countP HidEntry.isPointer → Flagged [.hidOverflow] s (givePointer i k ax ay b w s) ∧
      givePointer i k ax ay b w s = { bump .hidDrop s with
        events := (givePointer i k ax ay b w s).events, eventPending := (givePointer i k ax ay b w s).eventPending }) := by
  refine ⟨givePointer_of_room unmerged, fun full => ?_⟩
  rw [givePointer_of_full unmerged full]
  exact ⟨flagged_singleton_setFlag .hidOverflow (bump .hidDrop s), setFlag_frame .hidOverflow (bump .hidDrop s)⟩

end

/-- Settles O13: the queue is taken apart at the slot's keyboard entry, or at its newest pointer entry. -/
theorem hidEntriesMerge : Obligations.HidEntriesMerge := by
  refine ⟨fun s i m keys => ⟨?replaced, ?appended⟩, fun s i k ax ay b w => ⟨?newest, ?absent⟩⟩
  case replaced => exact fun pre post m' keys' queued only => giveKey_of_queued queued only m keys
  case appended => exact fun absent => ⟨giveKey_of_not_queued absent m keys, fun law => law.room_for_key absent⟩
  case newest =>
    intro pre post k' ax' ay' b' w' queued newest
    have decided : mergeNewest (.pointer i k ax ay b w) s.hidQueue =
        (mergeEntries (.pointer i k' ax' ay' b' w') (.pointer i k ax ay b w)).map fun x => pre ++ x :: post :=
      queued ▸ mergeNewest_of_newest (new := .pointer i k ax ay b w) (isPointerOf_slot_pointer i k' ax' ay' b' w') newest pre
    refine ⟨?agree, fun disagree => ?disagree⟩
    case agree =>
      rintro ⟨rfl, rfl⟩
      rw [mergeEntries_of_agree] at decided
      exact givePointer_of_merge decided
    case disagree =>
      rw [mergeEntries_of_disagree disagree] at decided
      exact givePointer_joins_or_drops decided
  case absent => exact fun absent => givePointer_joins_or_drops (mergeNewest_of_no_pointer absent)

end Sys2Proof.Machine
end

section
/-!
PROOFS. The windows of serial comparison (R59), O19: the difference of two frame numbers, and which window each range of it gives.
-/

namespace Sys2Proof.Machine

/-- R59: d = (F − C) mod 65536. -/
theorem frame_toNat_sub (f c : Frame) : (f - c).toNat = (f.toNat + 65536 - c.toNat) % 65536 := by
  rw [BitVec.toNat_sub', ← Nat.add_sub_assoc (Nat.le_of_lt c.isLt)]

section
variable {c f : Frame}

theorem window_of_same (same : (f - c).toNat = 0) : window c f = .same := if_pos same

theorem window_of_newer (above : 1 ≤ (f - c).toNat) (upTo : (f - c).toNat ≤ 64) : window c f = .newer (f - c).toNat := by
  simp only [window, if_neg (Nat.ne_of_gt above), if_pos upTo]

theorem window_of_late (above : 65472 ≤ (f - c).toNat) : window c f = .late := by
  have apart : (f - c).toNat ≠ 0 := by omega
  have beyond : ¬(f - c).toNat ≤ 64 := by omega
  simp only [window, if_neg apart, if_neg beyond, if_pos above]

theorem window_of_jump (above : 65 ≤ (f - c).toNat) (upTo : (f - c).toNat ≤ 65471) : window c f = .jump := by
  have apart : (f - c).toNat ≠ 0 := by omega
  have beyond : ¬(f - c).toNat ≤ 64 := by omega
  have short : ¬65472 ≤ (f - c).toNat := by omega
  simp only [window, if_neg apart, if_neg beyond, if_neg short]

end

/-- Settles O19: the difference is below 65536, so one of the four ranges holds it. -/
theorem fourWindows : Obligations.FourWindows := by
  intro c f
  rw [← frame_toNat_sub]
  have below : (f - c).toNat < 65536 := (f - c).isLt
  have ranges : (f - c).toNat = 0 ∨ (1 ≤ (f - c).toNat ∧ (f - c).toNat ≤ 64) ∨
      65472 ≤ (f - c).toNat ∨ (65 ≤ (f - c).toNat ∧ (f - c).toNat ≤ 65471) := by omega
  obtain same | ⟨above, upTo⟩ | above | ⟨above, upTo⟩ := ranges
  · exact .inl ⟨same, window_of_same same⟩
  · exact .inr (.inl ⟨above, upTo, window_of_newer above upTo⟩)
  · exact .inr (.inr (.inl ⟨above, Nat.le_of_lt_succ below, window_of_late above⟩))
  · exact .inr (.inr (.inr ⟨above, upTo, window_of_jump above upTo⟩))

end Sys2Proof.Machine
end
